-- ==== Sys2Proof/Word.lean ====
section
/-!
DEFINITION. Words: the two widths every file speaks of. A wire byte has 8 bits and the host data
bus 32 (00_scope.md R8); the host address has 12 (R8), bit 0 least significant (R10).
-/

namespace Sys2Proof

/-- A byte on the wire (R8). -/
abbrev Byte := BitVec 8

/-- One 32-bit word of the host data bus (R8). -/
abbrev Word := BitVec 32

/-- A byte offset in the 4 KiB register window (R8, R70). -/
abbrev Offset := BitVec 12

end Sys2Proof
end

