-- ==== Sys2Proof/Config.lean ====
section
/-!
DEFINITION. The implementation parameters of 00_scope.md R7, each at the value the spec fixes for
"the block" (log 14). The two parameters the spec marks OPEN are opaque constants: no proof can see
a value for them (10_state.md R68; log 4).
-/

namespace Sys2Proof.Config

/-- P_PART_ID, the ID register (R2, 10_state.md R24): the ASCII spelling of "CRC1". -/
def partId : Word := 0x43524331#32

/-- P_EVT_DEPTH: event FIFO depth, in records. -/
def evtDepth : Nat := 16

/-- P_TX_DEPTH: host TX FIFO depth, in bytes. -/
def txDepth : Nat := 64

/-- P_BAUD_MAX: number of baud candidate registers; the legal maximum of BAUD_COUNT.N. -/
def baudMax : BitVec 4 := 8#4

/-- P_INIT_MAX: number of init-script entries; the legal maximum of INIT_COUNT.N. -/
def initMax : BitVec 4 := 8#4

/-- P_INIT_BYTES: bytes per init-script entry; the legal maximum of SPEC.NBYTES. -/
def initBytes : BitVec 5 := 24#5

/-- P_PEND_CAP: pending byte buffer capacity (40_assembler.md R134: it is never exceeded). -/
def pendCap : Nat := 258

/-- P_PCSC_MAX: PC-SC response buffer capacity (40_assembler.md R145). -/
def pcscMax : Nat := 258

/-- P_ID_MAX: longest identifier a record holds, in bytes. -/
def idMax : Nat := 256

/-- P_A_SLOT: family A buffer-response identifier slot, in bytes. -/
def aSlot : Nat := 12

/-- P_A_STATUS_IDX: zero-based frame index of family A "byte 5" (30_encoding.md R95, R96). -/
def aStatusIdx : Nat := 5

/-- P_A_INV_ID_END_TRIM: bytes cut from the end of a family A inventory frame (R95). -/
def aInvIdEndTrim : Nat := 1

/-- P_B_TAG_STATUS_SET: family B status values that carry tag records (R100). -/
def bTagStatusSet : List Byte := [0x01#8]

/-- P_SEQ_TIMEOUT_RST: reset value of SEQ_TIMEOUT, in ms. -/
def seqTimeoutRst : BitVec 16 := 1000#16

/-- P_A_CMD_INV_RST, OPEN: reset value of A_CMD_SEL.INV. A free value (log 4). -/
opaque aCmdInvRst : Byte

/-- P_A_CMD_BUF_RST, OPEN: reset value of A_CMD_SEL.BUF. A free value (log 4). -/
opaque aCmdBufRst : Byte

/-- The most pairs the internal transmit queue holds (10_state.md R58). -/
def txqDepth : Nat := 24

/-- What the internal transmit queue holds after a push that does not fit in it. A free value
(log 10): the spec bounds the queue (10_state.md R58) and states no result past the bound. The
argument is `State.drawn`, so that each use is a value of its own. -/
opaque txqOverfull : Nat → List (Byte × Bool)

/-- The family A frame header (30_encoding.md R93). -/
def headerA : Byte := 0xA0#8

/-- Family B's inventory command (30_encoding.md R100). -/
def bCmdInventory : Byte := 0x01#8

/-- Family B's "no tags" status (30_encoding.md R100). -/
def bStatusNoTags : Byte := 0xFB#8

/-- The shortest family B length byte: ADDR, CMD and two CRC bytes (30_encoding.md R99). -/
def bLenMin : Byte := 4#8

/-- The PC-SC "get identifier" command (30_encoding.md R101). -/
def getUidApdu : List Byte := [0xFF#8, 0xCA#8, 0x00#8, 0x00#8, 0x00#8]

/-- The PC-SC success status word (30_encoding.md R102). -/
def swSuccess : BitVec 16 := 0x9000#16

/-- The CRC-16 polynomial, reflected (41_checksum_crc.md R160). -/
def crcPoly : BitVec 16 := 0x8408#16

/-- The CRC-16 initial value (41_checksum_crc.md R160). -/
def crcInit : BitVec 16 := 0xFFFF#16

/-- The code of `bus_size` that means a 32-bit access. DESIGN CHOICE (log 3): the spec gives the
port two bits (00_scope.md R9) and no code. -/
def busSizeWord : BitVec 2 := 0#2

end Sys2Proof.Config
end

