-- ==== Sys2Proof/Syntax.lean ====
section
/-!
DEFINITION. The block's operations, one constructor of `Instr` per row of spec/opcode_table.json,
and the items of the environment that carry them (30_encoding.md R90, R91, R105). The block has no
instruction stream (30_encoding.md, opening): an "instruction" here is one operation of the table.
-/

namespace Sys2Proof

/-- A reader family (00_scope.md R3); codes 0, 1, 2 (30_encoding.md R103). -/
inductive Family where
  /-- family A: UHF, header-synchronised frames -/
  | a
  /-- family B: UHF, frames led by a length byte -/
  | b
  /-- PC-SC: NFC, APDU request and response -/
  | pcsc
  deriving DecidableEq, Repr

/-- The write-only registers (10_state.md R23). -/
inductive WoReg where
  | cmd
  | crcData
  | xorData
  | txData
  deriving DecidableEq, Repr

/-- The read-only registers (10_state.md R23). -/
inductive RoReg where
  | id
  | status
  | chosenBaud
  | lastErr
  | txLevel
  | cntFrames
  | cntCsumErr
  | cntFrameErr
  | cntProtoErr
  | cntEvtOvf
  | cntPartial
  | cntDiscard
  | lastProtoCode
  | evtLevel
  | evtHead
  | evtAux
  | evtData (w : BitVec 6)
  deriving DecidableEq, Repr

/-- One host bus access as the ports carry it (00_scope.md R9, 30_encoding.md R91). DESIGN CHOICE
(log 23): `bus_we` and `bus_re` are two ports and the spec says nothing of both at 1; an access here
has one direction, and no item stands for that pair. -/
structure BusAccess where
  /-- the direction of R91: 1 = a write (`bus_we` alone), 0 = a read (`bus_re` alone) (log 23) -/
  we : Bool
  /-- `bus_size`; `Config.busSizeWord` is the 32-bit access -/
  size : BitVec 2
  /-- `bus_addr` -/
  addr : Offset
  /-- `bus_wdata` -/
  wdata : Word
  deriving DecidableEq, Repr

/-- Where an item arrives: the formats of 30_encoding.md R90 that enter the block. The interface,
not a bit of the item, says which format it has. -/
inductive Format where
  /-- the 32-bit data word of a write to offset 0x008 -/
  | cmd
  /-- one host bus access -/
  | bus
  /-- one strobe or beat on a port -/
  | port
  /-- one whole family A frame on rx -/
  | frameA
  /-- one whole family B frame on rx -/
  | frameB
  /-- the APDU command, which the block itself issues on tx -/
  | apduCommand
  /-- one whole PC-SC response on rx, `rx_last` on its last byte -/
  | apduResponse
  deriving DecidableEq, Repr

/-- One item of the environment: its format and its bytes in order (log 2). -/
structure Input where
  fmt : Format
  bytes : List Byte
  deriving DecidableEq, Repr

/-- What the frame selectors of 30_encoding.md R106 read beside the frame: CTRL.STRICT_A and
A_CMD_SEL. -/
structure Selectors where
  strictA : Bool
  inv : Byte
  buf : Byte
  deriving DecidableEq, Repr

/-- The operations of spec/opcode_table.json, in its order. -/
inductive Instr where
  -- CMD: the opcodes of 30_encoding.md R92
  /-- NOP (R260) -/
  | nop
  /-- CONNECT (R226, R227) -/
  | connect
  /-- DISCONNECT (R231) -/
  | disconnect
  /-- FLUSH_RX (R262) -/
  | flushRx
  /-- CRC_INIT (R164) -/
  | crcInit
  /-- XOR_INIT (R173) -/
  | xorInit
  /-- EVT_POP (R264) -/
  | evtPop
  /-- CLR_COUNTERS (R263) -/
  | clrCounters
  /-- TX_FLUSH (R265) -/
  | txFlush
  /-- RESERVED_9 (R261) -/
  | reserved9
  /-- RESERVED_A (R261) -/
  | reservedA
  /-- RESERVED_B (R261) -/
  | reservedB
  /-- RESERVED_C (R261) -/
  | reservedC
  /-- RESERVED_D (R261) -/
  | reservedD
  /-- RESERVED_E (R261) -/
  | reservedE
  /-- RESERVED_F (R261) -/
  | reservedF
  -- BUS: one access of one register (30_encoding.md R91)
  | rdId
  | rdCtrl
  | wrCtrl (v : Word)
  /-- WR_CMD (R26): the CMD rows by the word's OP field -/
  | wrCmd (v : Word)
  | rdStatus
  | rdIrqStatus
  | wrIrqStatus (v : Word)
  | rdIrqEn
  | wrIrqEn (v : Word)
  | rdChannel
  | wrChannel (v : Word)
  | rdBaudCount
  | wrBaudCount (v : Word)
  | rdBaudOverride
  | wrBaudOverride (v : Word)
  | rdChosenBaud
  | rdLastErr
  | rdSeqTimeout
  | wrSeqTimeout (v : Word)
  | rdACmdSel
  | wrACmdSel (v : Word)
  | rdInitCount
  | wrInitCount (v : Word)
  | rdCrcValue
  | wrCrcValue (v : Word)
  | wrCrcData (v : Word)
  | rdXorValue
  | wrXorValue (v : Word)
  | wrXorData (v : Word)
  | wrTxData (v : Word)
  | rdTxLevel
  | rdCntFrames
  | rdCntCsumErr
  | rdCntFrameErr
  | rdCntProtoErr
  | rdCntEvtOvf
  | rdCntPartial
  | rdCntDiscard
  | rdLastProtoCode
  | rdEvtLevel
  | rdEvtHead
  | rdEvtAux
  /-- RD_BAUD_CAND: n = offset[4:2] -/
  | rdBaudCand (n : BitVec 3)
  | wrBaudCand (n : BitVec 3) (v : Word)
  /-- RD_INIT_SCRIPT: entry k = offset[7:5], word w = offset[4:2] -/
  | rdInitScript (k w : BitVec 3)
  | wrInitScript (k w : BitVec 3) (v : Word)
  /-- RD_EVT_DATA: w = offset[7:2] -/
  | rdEvtData (w : BitVec 6)
  /-- RD_WO_REGISTER: a read of a write-only register (R64) -/
  | rdWoRegister (r : WoReg)
  /-- WR_RO_REGISTER: a write of a read-only register (R64) -/
  | wrRoRegister (r : RoReg) (v : Word)
  /-- UNLISTED_OFFSET: a word access of an offset R23 does not list (R74) -/
  | unlistedOffset (we : Bool) (off : Offset) (v : Word)
  /-- BUS_ERROR: a non-word or misaligned access (R71) -/
  | busError (acc : BusAccess)
  -- PORT: the strobes and beats of 30_encoding.md R105
  | rxByte (b : Byte) (last : Bool)
  | txBeat
  | openRsp (ok : Bool) (err : BitVec 2)
  | tick
  | cardPresent
  | cardRemoved
  | xferErr
  | reset
  -- FRAME_A: the selector rows A1 to A5 of 30_encoding.md R106
  | aFrameError (f : List Byte)
  | aStrictDrop (f : List Byte)
  | aInventory (f : List Byte)
  | aBuffer (f : List Byte)
  | aAck (f : List Byte)
  -- FRAME_B: the selector rows B1 to B3
  | bCrcDrop (f : List Byte)
  | bInventory (f : List Byte)
  | bAck (f : List Byte)
  -- APDU: the command the block issues, and the selector rows PC-SC 1 to 4
  | pcscGetUid
  | pcscFrameError (r : List Byte)
  | pcscNotags
  | pcscTag (uid : List Byte)
  | pcscProtoError (r : List Byte)
  deriving DecidableEq, Repr

/-- Why an item is no encoding of any operation. Nothing that the spec's interfaces can carry is
among these: they reject item bytes that no bus access, strobe, frame or response has (log 2). -/
inductive DecodeError where
  /-- a CMD item that is not one 32-bit word -/
  | cmdNotOneWord
  /-- a BUS item that is not an access word, a data word and a size -/
  | busNotOneAccess
  /-- a PORT item whose first byte names no strobe, or with the wrong number of data bytes -/
  | noSuchStrobe
  /-- a FRAME_A item that is not 0xA0, LEN and LEN + 1 further bytes (R93) -/
  | notOneFrameA
  /-- a FRAME_B item that is not LEN ≥ 4 and LEN further bytes (R97, R99) -/
  | notOneFrameB
  /-- an APDU command other than FF CA 00 00 00 (R101) -/
  | notGetUid
  /-- a PC-SC response with no byte to carry `rx_last` (log 18) -/
  | emptyResponse
  deriving DecidableEq, Repr

end Sys2Proof
end

