-- ==== Sys2Proof/Machine/Checksum.lean ====
section
/-!
DEFINITION. The pure functions of 41_checksum_crc.md: `crc_step` and `crc16` (R161), `xor8` (R170).
The host engines and the frame checks both use them (R166, R175).
-/

namespace Sys2Proof.Machine

/-- One bit of `crc_step` (R161): shift right, and fold the polynomial in when a 1 falls out. -/
def crcBit (c : BitVec 16) : BitVec 16 :=
  if c.getLsbD 0 then (c >>> 1) ^^^ Config.crcPoly else c >>> 1

/-- `crc_step(c, b)` (R161). -/
def crcStep (c : BitVec 16) (b : Byte) : BitVec 16 :=
  Nat.repeat crcBit 8 (c ^^^ b.zeroExtend 16)

/-- `crc16(s)` (R161), over the bytes in wire order. -/
def crc16 (s : List Byte) : BitVec 16 :=
  s.foldl crcStep Config.crcInit

/-- `xor8(s)` (R170). -/
def xor8 (s : List Byte) : Byte :=
  s.foldl (· ^^^ ·) 0#8

end Sys2Proof.Machine
end

