-- ==== Sys2Proof/Machine/Operands.lean ====
section
/-!
DEFINITION. Operands on plain data: byte sequences and slices (00_scope.md R10), byte lanes
(20_memory.md R76), the fields and checks of a wire frame (30_encoding.md R93 to R102,
41_checksum_crc.md R167, R171) and the decode selectors (30_encoding.md R106).
-/

namespace Sys2Proof.Machine

/-! ### Bytes and words -/

/-- `f[i]` (R10). Every use below reads an index inside the sequence. -/
def byteAt (f : List Byte) (i : Nat) : Byte :=
  f.getD i 0#8

/-- `f[a..b]`, inclusive, empty when b < a (R10). -/
def slice (f : List Byte) (a b : Nat) : List Byte :=
  (f.drop a).take (b + 1 - a)

/-- Byte j of a packed word: bits [8j+7:8j] (R76). -/
def lane (v : Word) (j : Nat) : Byte :=
  v.extractLsb' (8 * j) 8

/-- The four bytes of a word, lane 0 first (R76). -/
def wordBytes (v : Word) : List Byte :=
  [lane v 0, lane v 1, lane v 2, lane v 3]

/-- A word from its four lanes (R76). -/
def packWord (b0 b1 b2 b3 : Byte) : Word :=
  b3 ++ b2 ++ b1 ++ b0

/-- The little-endian 16-bit value of two bytes: the received CRC (R99). -/
def packHalf (lo hi : Byte) : BitVec 16 :=
  hi ++ lo

/-- Identifier bytes 4w to 4w+3 in little-endian lanes, 0 past the end (10_state.md R47). -/
def packedWord (bs : List Byte) (w : Nat) : Word :=
  packWord (byteAt bs (4 * w)) (byteAt bs (4 * w + 1)) (byteAt bs (4 * w + 2))
    (byteAt bs (4 * w + 3))

/-! ### Family A frames (R93, R94) -/

/-- `total = zext_9(LEN) + 3` (R94), from the sequence's second byte. -/
def totalA (f : List Byte) : Nat :=
  (byteAt f 1).toNat + 3

/-- The sequence is exactly one family A frame: header, LEN, and `total` bytes (R93). -/
def isFrameA (f : List Byte) : Bool :=
  byteAt f 0 == Config.headerA && f.length == totalA f

/-- The (ADDR, CMD) header of a family A frame (R93). -/
def headerOfA (f : List Byte) : Byte × Byte :=
  (byteAt f 2, byteAt f 3)

/-- `csum_ok(f)` (41_checksum_crc.md R171). -/
def csumOk (f : List Byte) : Bool :=
  xor8 (slice f 1 (f.length - 2)) == byteAt f (f.length - 1)

/-! ### Family B frames (R97, R99) -/

/-- `total = zext_9(LEN) + 1` (R99), from the sequence's first byte. -/
def totalB (f : List Byte) : Nat :=
  (byteAt f 0).toNat + 1

/-- The sequence is exactly one family B frame: LEN ≥ 4 and `total` bytes (R97, R99). -/
def isFrameB (f : List Byte) : Bool :=
  Config.bLenMin.ule (byteAt f 0) && f.length == totalB f

/-- The (ADDR, CMD) header of a family B frame (R97). -/
def headerOfB (f : List Byte) : Byte × Byte :=
  (byteAt f 1, byteAt f 2)

/-- The CRC value a family B frame carries (R99). -/
def receivedCrc (f : List Byte) : BitVec 16 :=
  packHalf (byteAt f (f.length - 2)) (byteAt f (f.length - 1))

/-- `crc_ok(f)` (41_checksum_crc.md R167): the CRC covers f[0 .. total-3] (R98). -/
def crcOk (f : List Byte) : Bool :=
  crc16 (f.take (f.length - 2)) == receivedCrc f

/-! ### PC-SC responses (R102) -/

/-- `SW = r[n-2] << 8 | r[n-1]` (R102). -/
def statusWord (r : List Byte) : BitVec 16 :=
  byteAt r (r.length - 2) ++ byteAt r (r.length - 1)

/-- The UID, `r[0 .. n-3]` (R102). -/
def uidOf (r : List Byte) : List Byte :=
  r.take (r.length - 2)

/-! ### Decode selectors (R106) -/

/-- The family A rows of R106. -/
inductive RowA where
  | frameError
  | strictDrop
  | inventory
  | buffer
  | ack
  deriving DecidableEq, Repr

/-- The family B rows of R106. -/
inductive RowB where
  | crcDrop
  | inventory
  | ack
  deriving DecidableEq, Repr

/-- The PC-SC rows of R106. -/
inductive RowPcsc where
  | frameError
  | noTags
  | tag
  | protoError
  deriving DecidableEq, Repr

/-- The first family A row of R106 that applies to a completed frame. -/
def selectA (sel : Selectors) (f : List Byte) : RowA :=
  if (byteAt f 1).toNat < 2 then .frameError
  else if !csumOk f && sel.strictA then .strictDrop
  else if byteAt f 3 = sel.inv then .inventory
  else if byteAt f 3 = sel.buf then .buffer
  else .ack

/-- The first family B row of R106 that applies to a completed frame. -/
def selectB (f : List Byte) : RowB :=
  if !crcOk f then .crcDrop
  else if byteAt f 2 = Config.bCmdInventory then .inventory
  else .ack

/-- The first PC-SC row of R106 that applies to a response, `ovf` telling that bytes were lost. -/
def selectPcsc (r : List Byte) (ovf : Bool) : RowPcsc :=
  if ovf || r.length < 2 then .frameError
  else if statusWord r = Config.swSuccess then
    if r.length = 2 then .noTags else .tag
  else .protoError

end Sys2Proof.Machine
end

