-- ==== Sys2Proof/WellFormed.lean ====
section
/-!
DEFINITION. Which operations are well formed: their operands are ones an encoding of the spec can
carry. `Instr.selected` adds the selectors of 30_encoding.md R106 that depend on registers.
-/

namespace Sys2Proof

/-- The word offsets 20_memory.md R74 calls unlisted: 0x07C, 0x0A0-0x0FC, 0x200-0x3FC and
0x500-0xFFC. -/
def unlistedWord (off : Offset) : Bool :=
  off.toNat % 4 == 0 &&
    (off.toNat == 0x07C || (0x0A0 ≤ off.toNat && off.toNat ≤ 0x0FC) ||
      (0x200 ≤ off.toNat && off.toNat ≤ 0x3FC) || (0x500 ≤ off.toNat && off.toNat ≤ 0xFFC))

/-- The access is not a 32-bit access at a multiple of 4 (20_memory.md R71). -/
def BusAccess.refused (acc : BusAccess) : Bool :=
  acc.size != Config.busSizeWord || acc.addr.toNat % 4 != 0

/-- The operation's operands are ones its encoding can carry. For a frame row: the bytes are one
whole frame (30_encoding.md R93, R97) and meet the parts of the row's selector that the bytes alone
decide (R106). For a response row: R102, R106. -/
def Instr.wellFormed : Instr → Bool
  | .unlistedOffset _ off _ => unlistedWord off
  | .busError acc => acc.refused
  | .aFrameError f => Machine.isFrameA f && (Machine.byteAt f 1).toNat < 2
  | .aStrictDrop f =>
      Machine.isFrameA f && 2 ≤ (Machine.byteAt f 1).toNat && !Machine.csumOk f
  | .aInventory f | .aBuffer f | .aAck f =>
      Machine.isFrameA f && 2 ≤ (Machine.byteAt f 1).toNat
  | .bCrcDrop f => Machine.isFrameB f && Machine.selectB f == .crcDrop
  | .bInventory f => Machine.isFrameB f && Machine.selectB f == .inventory
  | .bAck f => Machine.isFrameB f && Machine.selectB f == .ack
  | .pcscFrameError r => r.length == 1 || Config.pcscMax < r.length
  | .pcscTag uid => 1 ≤ uid.length && uid.length ≤ Config.idMax
  | .pcscProtoError r =>
      2 ≤ r.length && r.length ≤ Config.pcscMax && Machine.statusWord r != Config.swSuccess
  | .nop | .connect | .disconnect | .flushRx | .crcInit | .xorInit | .evtPop | .clrCounters
  | .txFlush | .reserved9 | .reservedA | .reservedB | .reservedC | .reservedD | .reservedE
  | .reservedF | .rdId | .rdCtrl | .wrCtrl _ | .wrCmd _ | .rdStatus | .rdIrqStatus
  | .wrIrqStatus _ | .rdIrqEn | .wrIrqEn _ | .rdChannel | .wrChannel _ | .rdBaudCount
  | .wrBaudCount _ | .rdBaudOverride | .wrBaudOverride _ | .rdChosenBaud | .rdLastErr
  | .rdSeqTimeout | .wrSeqTimeout _ | .rdACmdSel | .wrACmdSel _ | .rdInitCount | .wrInitCount _
  | .rdCrcValue | .wrCrcValue _ | .wrCrcData _ | .rdXorValue | .wrXorValue _ | .wrXorData _
  | .wrTxData _ | .rdTxLevel | .rdCntFrames | .rdCntCsumErr | .rdCntFrameErr | .rdCntProtoErr
  | .rdCntEvtOvf | .rdCntPartial | .rdCntDiscard | .rdLastProtoCode | .rdEvtLevel | .rdEvtHead
  | .rdEvtAux | .rdBaudCand _ | .wrBaudCand _ _ | .rdInitScript _ _ | .wrInitScript _ _ _
  | .rdEvtData _ | .rdWoRegister _ | .wrRoRegister _ _ | .rxByte _ _ | .txBeat | .openRsp _ _
  | .tick | .cardPresent | .cardRemoved | .xferErr | .reset | .pcscGetUid | .pcscNotags => true

/-- The registers that the selectors of R106 read pick this row for the frame. True of every
operation that is no family A frame. -/
def Instr.selected (sel : Selectors) : Instr → Bool
  | .aFrameError f => Machine.selectA sel f == .frameError
  | .aStrictDrop f => Machine.selectA sel f == .strictDrop
  | .aInventory f => Machine.selectA sel f == .inventory
  | .aBuffer f => Machine.selectA sel f == .buffer
  | .aAck f => Machine.selectA sel f == .ack
  | .nop | .connect | .disconnect | .flushRx | .crcInit | .xorInit | .evtPop | .clrCounters
  | .txFlush | .reserved9 | .reservedA | .reservedB | .reservedC | .reservedD | .reservedE
  | .reservedF | .rdId | .rdCtrl | .wrCtrl _ | .wrCmd _ | .rdStatus | .rdIrqStatus
  | .wrIrqStatus _ | .rdIrqEn | .wrIrqEn _ | .rdChannel | .wrChannel _ | .rdBaudCount
  | .wrBaudCount _ | .rdBaudOverride | .wrBaudOverride _ | .rdChosenBaud | .rdLastErr
  | .rdSeqTimeout | .wrSeqTimeout _ | .rdACmdSel | .wrACmdSel _ | .rdInitCount | .wrInitCount _
  | .rdCrcValue | .wrCrcValue _ | .wrCrcData _ | .rdXorValue | .wrXorValue _ | .wrXorData _
  | .wrTxData _ | .rdTxLevel | .rdCntFrames | .rdCntCsumErr | .rdCntFrameErr | .rdCntProtoErr
  | .rdCntEvtOvf | .rdCntPartial | .rdCntDiscard | .rdLastProtoCode | .rdEvtLevel | .rdEvtHead
  | .rdEvtAux | .rdBaudCand _ | .wrBaudCand _ _ | .rdInitScript _ _ | .wrInitScript _ _ _
  | .rdEvtData _ | .rdWoRegister _ | .wrRoRegister _ _ | .rxByte _ _ | .txBeat | .openRsp _ _
  | .tick | .cardPresent | .cardRemoved | .xferErr | .reset | .pcscGetUid | .pcscNotags
  | .unlistedOffset _ _ _ | .busError _ | .bCrcDrop _ | .bInventory _ | .bAck _
  | .pcscFrameError _ | .pcscTag _ | .pcscProtoError _ => true

end Sys2Proof
end

