-- ==== Sys2Proof/Decode.lean ====
section
/-!
DEFINITION. From an item of the environment to the operation it is, total on any bytes and rejecting
by name, then the encoder written from the same tables (30_encoding.md R90 to R106, R112;
opcode_table.json). The item layouts the spec does not give (the strobes' numbers, the place of
`bus_size`) are log 2 and log 3.
-/

namespace Sys2Proof

open Machine

/-! ### The register map as the BUS rows see it (10_state.md R23, 30_encoding.md R112) -/

/-- Byte offset of a write-only register (R23). -/
def WoReg.offset : WoReg → Offset
  | .cmd => 0x008#12
  | .crcData => 0x03C#12
  | .xorData => 0x044#12
  | .txData => 0x048#12

/-- Byte offset of a read-only register (R23, R112). -/
def RoReg.offset : RoReg → Offset
  | .id => 0x000#12
  | .status => 0x00C#12
  | .chosenBaud => 0x024#12
  | .lastErr => 0x028#12
  | .txLevel => 0x04C#12
  | .cntFrames => 0x050#12
  | .cntCsumErr => 0x054#12
  | .cntFrameErr => 0x058#12
  | .cntProtoErr => 0x05C#12
  | .cntEvtOvf => 0x060#12
  | .cntPartial => 0x064#12
  | .cntDiscard => 0x068#12
  | .lastProtoCode => 0x06C#12
  | .evtLevel => 0x070#12
  | .evtHead => 0x074#12
  | .evtAux => 0x078#12
  | .evtData w => 0x4#4 ++ w ++ 0#2

/-- Offset of BAUD_CAND[n], 0x080 + 4n (R112). -/
def baudCandOffset (n : BitVec 3) : Offset :=
  0x04#7 ++ n ++ 0#2

/-- Offset of word w of INIT_SCRIPT[k], 0x100 + 0x20k + 4w (R112). -/
def initScriptOffset (k w : BitVec 3) : Offset :=
  0x1#4 ++ k ++ w ++ 0#2

/-- Offset of EVT_DATA[w], 0x400 + 4w (R112). -/
def evtDataOffset (w : BitVec 6) : Offset :=
  0x4#4 ++ w ++ 0#2

/-- n of an offset of BAUD_CAND: offset[4:2] (opcode_table.json). -/
def candIndex (off : Offset) : BitVec 3 := off.extractLsb' 2 3

/-- k of an offset of INIT_SCRIPT: offset[7:5] (opcode_table.json). -/
def scriptIndex (off : Offset) : BitVec 3 := off.extractLsb' 5 3

/-- The word of an offset of INIT_SCRIPT: offset[4:2] (opcode_table.json). -/
def scriptWord (off : Offset) : BitVec 3 := off.extractLsb' 2 3

/-- w of an offset of EVT_DATA: offset[7:2] (opcode_table.json). -/
def evtDataIndex (off : Offset) : BitVec 6 := off.extractLsb' 2 6

/-- A word read of an offset: the R rows (R23), an array row, or UNLISTED_OFFSET (R74). -/
def decodeRead (off : Offset) (v : Word) : Instr :=
  match off.toNat with
  | 0x000 => .rdId
  | 0x004 => .rdCtrl
  | 0x008 => .rdWoRegister .cmd
  | 0x00C => .rdStatus
  | 0x010 => .rdIrqStatus
  | 0x014 => .rdIrqEn
  | 0x018 => .rdChannel
  | 0x01C => .rdBaudCount
  | 0x020 => .rdBaudOverride
  | 0x024 => .rdChosenBaud
  | 0x028 => .rdLastErr
  | 0x02C => .rdSeqTimeout
  | 0x030 => .rdACmdSel
  | 0x034 => .rdInitCount
  | 0x038 => .rdCrcValue
  | 0x03C => .rdWoRegister .crcData
  | 0x040 => .rdXorValue
  | 0x044 => .rdWoRegister .xorData
  | 0x048 => .rdWoRegister .txData
  | 0x04C => .rdTxLevel
  | 0x050 => .rdCntFrames
  | 0x054 => .rdCntCsumErr
  | 0x058 => .rdCntFrameErr
  | 0x05C => .rdCntProtoErr
  | 0x060 => .rdCntEvtOvf
  | 0x064 => .rdCntPartial
  | 0x068 => .rdCntDiscard
  | 0x06C => .rdLastProtoCode
  | 0x070 => .rdEvtLevel
  | 0x074 => .rdEvtHead
  | 0x078 => .rdEvtAux
  | n =>
    if 0x080 ≤ n ∧ n < 0x0A0 then .rdBaudCand (candIndex off)
    else if 0x100 ≤ n ∧ n < 0x200 then .rdInitScript (scriptIndex off) (scriptWord off)
    else if 0x400 ≤ n ∧ n < 0x500 then .rdEvtData (evtDataIndex off)
    else .unlistedOffset false off v

/-- A word write of an offset: the W rows (R23), an array row, or UNLISTED_OFFSET (R74). -/
def decodeWrite (off : Offset) (v : Word) : Instr :=
  match off.toNat with
  | 0x000 => .wrRoRegister .id v
  | 0x004 => .wrCtrl v
  | 0x008 => .wrCmd v
  | 0x00C => .wrRoRegister .status v
  | 0x010 => .wrIrqStatus v
  | 0x014 => .wrIrqEn v
  | 0x018 => .wrChannel v
  | 0x01C => .wrBaudCount v
  | 0x020 => .wrBaudOverride v
  | 0x024 => .wrRoRegister .chosenBaud v
  | 0x028 => .wrRoRegister .lastErr v
  | 0x02C => .wrSeqTimeout v
  | 0x030 => .wrACmdSel v
  | 0x034 => .wrInitCount v
  | 0x038 => .wrCrcValue v
  | 0x03C => .wrCrcData v
  | 0x040 => .wrXorValue v
  | 0x044 => .wrXorData v
  | 0x048 => .wrTxData v
  | 0x04C => .wrRoRegister .txLevel v
  | 0x050 => .wrRoRegister .cntFrames v
  | 0x054 => .wrRoRegister .cntCsumErr v
  | 0x058 => .wrRoRegister .cntFrameErr v
  | 0x05C => .wrRoRegister .cntProtoErr v
  | 0x060 => .wrRoRegister .cntEvtOvf v
  | 0x064 => .wrRoRegister .cntPartial v
  | 0x068 => .wrRoRegister .cntDiscard v
  | 0x06C => .wrRoRegister .lastProtoCode v
  | 0x070 => .wrRoRegister .evtLevel v
  | 0x074 => .wrRoRegister .evtHead v
  | 0x078 => .wrRoRegister .evtAux v
  | n =>
    if 0x080 ≤ n ∧ n < 0x0A0 then .wrBaudCand (candIndex off) v
    else if 0x100 ≤ n ∧ n < 0x200 then .wrInitScript (scriptIndex off) (scriptWord off) v
    else if 0x400 ≤ n ∧ n < 0x500 then .wrRoRegister (.evtData (evtDataIndex off)) v
    else .unlistedOffset true off v

/-- Which operation a bus access is: a refused access first (R71), then by dir and offset (R91). -/
def decodeBus (acc : BusAccess) : Instr :=
  if acc.refused then .busError acc
  else if acc.we then decodeWrite acc.addr acc.wdata
  else decodeRead acc.addr acc.wdata

/-- Which host command an OP field names (30_encoding.md R92). -/
def decodeOp (op : BitVec 4) : Instr :=
  match op.toNat with
  | 0x0 => .nop
  | 0x1 => .connect
  | 0x2 => .disconnect
  | 0x3 => .flushRx
  | 0x4 => .crcInit
  | 0x5 => .xorInit
  | 0x6 => .evtPop
  | 0x7 => .clrCounters
  | 0x8 => .txFlush
  | 0x9 => .reserved9
  | 0xA => .reservedA
  | 0xB => .reservedB
  | 0xC => .reservedC
  | 0xD => .reservedD
  | 0xE => .reservedE
  | _ => .reservedF

/-! ### Items -/

/-- The access word of a BUS item: offset in bits [11:0], dir in bit 12 with W = 1
(opcode_table.json); bits [15:13] are not decoded. -/
def busItem (acc : BusAccess) : List Byte :=
  let w : BitVec 16 := 0#3 ++ BitVec.ofBool acc.we ++ acc.addr
  [w.extractLsb' 0 8, w.extractLsb' 8 8] ++ wordBytes acc.wdata ++ [acc.size.zeroExtend 8]

/-- The access a BUS item carries. -/
def busAccessOf (a0 a1 d0 d1 d2 d3 sz : Byte) : BusAccess where
  we := a1.getLsbD 4
  size := sz.extractLsb' 0 2
  addr := a1.extractLsb' 0 4 ++ a0
  wdata := packWord d0 d1 d2 d3

/-- A PORT item: the strobe's number in the order of R105, then its data (log 2). -/
def decodePort : List Byte → Except DecodeError Instr
  | [n, b, l] =>
    if n = 0#8 then .ok (.rxByte b (l.getLsbD 0))
    else if n = 2#8 then .ok (.openRsp (b.getLsbD 0) (l.extractLsb' 0 2))
    else .error .noSuchStrobe
  | [n] =>
    if n = 1#8 then .ok .txBeat
    else if n = 3#8 then .ok .tick
    else if n = 4#8 then .ok .cardPresent
    else if n = 5#8 then .ok .cardRemoved
    else if n = 6#8 then .ok .xferErr
    else if n = 7#8 then .ok .reset
    else .error .noSuchStrobe
  | _ => .error .noSuchStrobe

/-- A whole family A frame, by the selectors of R106. -/
def decodeFrameA (sel : Selectors) (f : List Byte) : Except DecodeError Instr :=
  if isFrameA f then
    match selectA sel f with
    | .frameError => .ok (.aFrameError f)
    | .strictDrop => .ok (.aStrictDrop f)
    | .inventory => .ok (.aInventory f)
    | .buffer => .ok (.aBuffer f)
    | .ack => .ok (.aAck f)
  else .error .notOneFrameA

/-- A whole family B frame, by the selectors of R106. -/
def decodeFrameB (f : List Byte) : Except DecodeError Instr :=
  if isFrameB f then
    match selectB f with
    | .crcDrop => .ok (.bCrcDrop f)
    | .inventory => .ok (.bInventory f)
    | .ack => .ok (.bAck f)
  else .error .notOneFrameB

/-- A whole PC-SC response, by the selectors of R106; bytes are lost when there are more than
P_PCSC_MAX (40_assembler.md R145). -/
def decodeResponse (r : List Byte) : Except DecodeError Instr :=
  if r = [] then .error .emptyResponse
  else
    match selectPcsc (r.take Config.pcscMax) (Config.pcscMax < r.length) with
    | .frameError => .ok (.pcscFrameError r)
    | .noTags => .ok .pcscNotags
    | .tag => .ok (.pcscTag (uidOf r))
    | .protoError => .ok (.pcscProtoError r)

/-- The operation an item is. Total: every item is an operation or is rejected by name. -/
def decode (sel : Selectors) (inp : Input) : Except DecodeError Instr :=
  match inp.fmt with
  | .cmd =>
    match inp.bytes with
    | [d0, d1, d2, d3] => .ok (decodeOp ((packWord d0 d1 d2 d3).extractLsb' 0 4))
    | _ => .error .cmdNotOneWord
  | .bus =>
    match inp.bytes with
    | [a0, a1, d0, d1, d2, d3, sz] => .ok (decodeBus (busAccessOf a0 a1 d0 d1 d2 d3 sz))
    | _ => .error .busNotOneAccess
  | .port => decodePort inp.bytes
  | .frameA => decodeFrameA sel inp.bytes
  | .frameB => decodeFrameB inp.bytes
  | .apduCommand => if inp.bytes = Config.getUidApdu then .ok .pcscGetUid else .error .notGetUid
  | .apduResponse => decodeResponse inp.bytes

/-! ### Encoding -/

/-- A CMD item: the opcode with bits [31:4] zero ("write 0", R92). -/
def cmdInput (op : BitVec 4) : Input :=
  ⟨.cmd, wordBytes (op.zeroExtend 32)⟩

/-- A word read of an offset. -/
def readInput (off : Offset) : Input :=
  ⟨.bus, busItem ⟨false, Config.busSizeWord, off, 0#32⟩⟩

/-- A word write of an offset. -/
def writeInput (off : Offset) (v : Word) : Input :=
  ⟨.bus, busItem ⟨true, Config.busSizeWord, off, v⟩⟩

/-- The item of an operation, from the tables of 30_encoding.md R92, R105, R112 and 10_state.md
R23. -/
def encode : Instr → Input
  | .nop => cmdInput 0x0#4
  | .connect => cmdInput 0x1#4
  | .disconnect => cmdInput 0x2#4
  | .flushRx => cmdInput 0x3#4
  | .crcInit => cmdInput 0x4#4
  | .xorInit => cmdInput 0x5#4
  | .evtPop => cmdInput 0x6#4
  | .clrCounters => cmdInput 0x7#4
  | .txFlush => cmdInput 0x8#4
  | .reserved9 => cmdInput 0x9#4
  | .reservedA => cmdInput 0xA#4
  | .reservedB => cmdInput 0xB#4
  | .reservedC => cmdInput 0xC#4
  | .reservedD => cmdInput 0xD#4
  | .reservedE => cmdInput 0xE#4
  | .reservedF => cmdInput 0xF#4
  | .rdId => readInput 0x000#12
  | .rdCtrl => readInput 0x004#12
  | .wrCtrl v => writeInput 0x004#12 v
  | .wrCmd v => writeInput 0x008#12 v
  | .rdStatus => readInput 0x00C#12
  | .rdIrqStatus => readInput 0x010#12
  | .wrIrqStatus v => writeInput 0x010#12 v
  | .rdIrqEn => readInput 0x014#12
  | .wrIrqEn v => writeInput 0x014#12 v
  | .rdChannel => readInput 0x018#12
  | .wrChannel v => writeInput 0x018#12 v
  | .rdBaudCount => readInput 0x01C#12
  | .wrBaudCount v => writeInput 0x01C#12 v
  | .rdBaudOverride => readInput 0x020#12
  | .wrBaudOverride v => writeInput 0x020#12 v
  | .rdChosenBaud => readInput 0x024#12
  | .rdLastErr => readInput 0x028#12
  | .rdSeqTimeout => readInput 0x02C#12
  | .wrSeqTimeout v => writeInput 0x02C#12 v
  | .rdACmdSel => readInput 0x030#12
  | .wrACmdSel v => writeInput 0x030#12 v
  | .rdInitCount => readInput 0x034#12
  | .wrInitCount v => writeInput 0x034#12 v
  | .rdCrcValue => readInput 0x038#12
  | .wrCrcValue v => writeInput 0x038#12 v
  | .wrCrcData v => writeInput 0x03C#12 v
  | .rdXorValue => readInput 0x040#12
  | .wrXorValue v => writeInput 0x040#12 v
  | .wrXorData v => writeInput 0x044#12 v
  | .wrTxData v => writeInput 0x048#12 v
  | .rdTxLevel => readInput 0x04C#12
  | .rdCntFrames => readInput 0x050#12
  | .rdCntCsumErr => readInput 0x054#12
  | .rdCntFrameErr => readInput 0x058#12
  | .rdCntProtoErr => readInput 0x05C#12
  | .rdCntEvtOvf => readInput 0x060#12
  | .rdCntPartial => readInput 0x064#12
  | .rdCntDiscard => readInput 0x068#12
  | .rdLastProtoCode => readInput 0x06C#12
  | .rdEvtLevel => readInput 0x070#12
  | .rdEvtHead => readInput 0x074#12
  | .rdEvtAux => readInput 0x078#12
  | .rdBaudCand n => readInput (baudCandOffset n)
  | .wrBaudCand n v => writeInput (baudCandOffset n) v
  | .rdInitScript k w => readInput (initScriptOffset k w)
  | .wrInitScript k w v => writeInput (initScriptOffset k w) v
  | .rdEvtData w => readInput (evtDataOffset w)
  | .rdWoRegister r => readInput r.offset
  | .wrRoRegister r v => writeInput r.offset v
  | .unlistedOffset we off v => ⟨.bus, busItem ⟨we, Config.busSizeWord, off, v⟩⟩
  | .busError acc => ⟨.bus, busItem acc⟩
  | .rxByte b last => ⟨.port, [0#8, b, (BitVec.ofBool last).zeroExtend 8]⟩
  | .txBeat => ⟨.port, [1#8]⟩
  | .openRsp ok err => ⟨.port, [2#8, (BitVec.ofBool ok).zeroExtend 8, err.zeroExtend 8]⟩
  | .tick => ⟨.port, [3#8]⟩
  | .cardPresent => ⟨.port, [4#8]⟩
  | .cardRemoved => ⟨.port, [5#8]⟩
  | .xferErr => ⟨.port, [6#8]⟩
  | .reset => ⟨.port, [7#8]⟩
  | .aFrameError f | .aStrictDrop f | .aInventory f | .aBuffer f | .aAck f => ⟨.frameA, f⟩
  | .bCrcDrop f | .bInventory f | .bAck f => ⟨.frameB, f⟩
  | .pcscGetUid => ⟨.apduCommand, Config.getUidApdu⟩
  | .pcscFrameError r | .pcscProtoError r => ⟨.apduResponse, r⟩
  | .pcscNotags => ⟨.apduResponse, [0x90#8, 0x00#8]⟩
  | .pcscTag uid => ⟨.apduResponse, uid ++ [0x90#8, 0x00#8]⟩

/-! ### The opcode table's words -/

/-- The item of a table word of `nbits` bits (log 22). Up to 8 bits: a CMD row's OP, its word's
upper bits 0, except 0xA0, the first byte of the FRAME_A rows, whose further bytes are 0 and whose
frame is therefore `A0 00 00`. More bits: a BUS row's access word, its data word above it, a 32-bit
access. -/
def tableInput (nbits w : Nat) : Input :=
  let w := w % 2 ^ nbits
  if nbits ≤ 8 then
    if w = 0xA0 then ⟨.frameA, [0xA0#8, 0#8, 0#8]⟩
    else ⟨.cmd, wordBytes (BitVec.ofNat 32 w)⟩
  else
    let a := BitVec.ofNat 16 w
    ⟨.bus, [a.extractLsb' 0 8, a.extractLsb' 8 8] ++ wordBytes (BitVec.ofNat 32 (w / 2 ^ 16)) ++
      [Config.busSizeWord.zeroExtend 8]⟩

/-- The selectors at reset (10_state.md R67): lenient, and the OPEN values of A_CMD_SEL. -/
def resetSelectors : Selectors :=
  ⟨false, Config.aCmdInvRst, Config.aCmdBufRst⟩

/-- The operation the decoder reads from a word of spec/opcode_table.json. -/
def decodeTableWord (nbits w : Nat) : Option Instr :=
  match decode resetSelectors (tableInput nbits w) with
  | .ok i => some i
  | .error _ => none

end Sys2Proof
end

