-- ==== Sys2Proof/Machine/State.lean ====
section
/-!
DEFINITION. The block's state as plain data: every register of 10_state.md R23 that has storage, the
hidden state of R50 to R60, the port outputs of the last step (00_scope.md R9) and the events still
to come (log 1). A field holds what the rule says it holds and no reserved bit, so a legal value is
legal by its type wherever a type can say so.
-/

namespace Sys2Proof.Machine

/-- The sequencer state `S.state` (10_state.md R50). -/
inductive SeqState where
  /-- no session, transport closed -/
  | idle
  /-- `open_req` issued, awaiting `open_rsp` -/
  | opening
  /-- an init step's bytes being sent -/
  | initTx
  /-- awaiting the response of an init step -/
  | initWait
  /-- waiting out an init step's post delay -/
  | initDelay
  /-- session live -/
  | connected
  /-- every candidate failed -/
  | failed
  /-- DISCONNECT came while an open was in flight -/
  | aborting
  deriving DecidableEq, Repr

/-- The cause field of LAST_ERR (60_exceptions.md R300); codes 6 to 15 are never written. -/
inductive Cause where
  | none
  | channelBusy
  | deviceNotFound
  | permissionDenied
  | stepTimeout
  | emptyList
  deriving DecidableEq, Repr

/-- LAST_ERR (10_state.md R34). -/
structure LastErr where
  cause : Cause
  candIdx : BitVec 4
  stepIdx : BitVec 4
  deriving DecidableEq, Repr

/-- CTRL (10_state.md R25). FAMILY keeps its two bits, since 3 can be written and read back. -/
structure Ctrl where
  family : BitVec 2
  strictA : Bool
  baudOvrEn : Bool
  initWaitResp : Bool
  deriving DecidableEq, Repr

/-- One INIT_SCRIPT entry (10_state.md R49). -/
structure ScriptEntry where
  nbytes : BitVec 5
  expAddr : Byte
  expCmd : Byte
  delay : BitVec 16
  data : Vector Word 6
  deriving DecidableEq, Repr

/-- The registers the host sets and the block only reads. -/
structure HostRegs where
  ctrl : Ctrl
  /-- IRQ_EN[10:0] (R29) -/
  irqEn : BitVec 11
  /-- CHANNEL.CHAN (R30) -/
  channel : Byte
  /-- BAUD_COUNT.N (R31) -/
  baudCount : BitVec 4
  /-- BAUD_OVERRIDE (R32) -/
  baudOverride : Word
  /-- BAUD_CAND[0..7] (R32) -/
  baudCand : Vector Word 8
  /-- SEQ_TIMEOUT.T (R35) -/
  seqTimeout : BitVec 16
  /-- A_CMD_SEL.INV (R36) -/
  aInv : Byte
  /-- A_CMD_SEL.BUF (R36) -/
  aBuf : Byte
  /-- INIT_COUNT.N (R37) -/
  initCount : BitVec 4
  /-- INIT_SCRIPT[0..7] (R49) -/
  script : Vector ScriptEntry 8
  deriving DecidableEq, Repr

/-- The session: sequencer state, what CONNECT latched, and what the connection reports. -/
structure Session where
  /-- `S.state` (R50) -/
  seq : SeqState
  /-- `S.fam` (R51) -/
  fam : Family
  /-- `S.chan` (R52) -/
  chan : Byte
  /-- `S.wait_resp` (R52) -/
  waitResp : Bool
  /-- `S.cand` (R52) -/
  cand : List Word
  /-- `S.ncand` (R52) -/
  ncand : BitVec 4
  /-- `S.ci` (R53) -/
  ci : BitVec 4
  /-- `S.k` (R53) -/
  k : BitVec 4
  /-- `S.timer` (R54) -/
  timer : BitVec 17
  /-- `S.open` (R55) -/
  handleOpen : Bool
  /-- CHOSEN_BAUD (R33) -/
  chosenBaud : Word
  /-- LAST_ERR (R34) -/
  lastErr : LastErr
  deriving DecidableEq, Repr

/-- The receive buffers (R56, R57). -/
structure RxState where
  pend : List Byte
  pcBuf : List Byte
  pcOvf : Bool
  pcBusy : Bool
  deriving DecidableEq, Repr

/-- The transmit queues (R58): the internal queue of (byte, last) and the host FIFO. -/
structure TxState where
  txq : List (Byte × Bool)
  htx : List Byte
  deriving DecidableEq, Repr

/-- The kind of a record (30_encoding.md R104): 1 to 4. EMPTY is read from an empty FIFO only, and
5 to 15 are never produced. -/
inductive RecordKind where
  | tag
  | noTags
  | ack
  | protoErr
  deriving DecidableEq, Repr

/-- One record of the event FIFO (10_state.md R59). -/
structure Record where
  kind : RecordKind
  fam : Family
  csumBad : Bool
  cmd : Byte
  addr : Byte
  code : BitVec 16
  id : List Byte
  deriving DecidableEq, Repr

/-- The host engines (R60): `S.crc` and `S.xacc`. -/
structure Engines where
  crc : BitVec 16
  xacc : Byte
  deriving DecidableEq, Repr

/-- The block's log: the sticky bits of IRQ_STATUS, the seven counters and LAST_PROTO_CODE (R28,
R44, R45). -/
structure Log where
  /-- IRQ_STATUS[10:1]; bit 0 follows the event FIFO -/
  irq : BitVec 10
  /-- CNT_FRAMES -/
  frames : Word
  /-- CNT_CSUM_ERR -/
  csumErr : Word
  /-- CNT_FRAME_ERR -/
  frameErr : Word
  /-- CNT_PROTO_ERR -/
  protoErr : Word
  /-- CNT_EVT_OVF -/
  evtOvf : Word
  /-- CNT_PARTIAL -/
  partialBatch : Word
  /-- CNT_DISCARD -/
  discard : Word
  /-- LAST_PROTO_CODE -/
  protoCode : BitVec 16
  deriving DecidableEq, Repr

/-- The port outputs of the last step that are pulses or answers (00_scope.md R9; log 8). `irq`,
`tx_valid`, `tx_data`, `tx_last` and `rx_ready` are functions of the state. -/
structure Ports where
  /-- `bus_err` -/
  busErr : Bool
  /-- `bus_rdata`, for an access that returns data -/
  busRdata : Option Word
  /-- `open_req` with `open_chan` and `open_baud` -/
  openReq : Option (Byte × Word)
  /-- `close_req`; in a step that pulses both, it comes before `open_req` (43_sequencer.md R229) -/
  closeReq : Bool
  /-- the `(tx_data, tx_last)` the transport took -/
  txBeat : Option (Byte × Bool)
  deriving DecidableEq, Repr

/-- The block's whole state, and the environment's events still to be taken. -/
structure State where
  regs : HostRegs
  sess : Session
  rx : RxState
  tx : TxState
  /-- `S.evt`, oldest first (R59) -/
  evt : List Record
  eng : Engines
  log : Log
  ports : Ports
  /-- the events still to come, in the order in which they will be taken: the environment's, not
  the block's (log 1) -/
  inputs : List Input
  /-- how many free values of Config have been used: the model's own, and no state of the block
  (log 10) -/
  drawn : Nat
  deriving DecidableEq, Repr

/-- Why a step faults. The block has no trap, never stops and never locks up on an error
(60_exceptions.md R320, R321): no constructor, nothing raises one. -/
inductive Fault
  deriving DecidableEq, Repr

/-- Why a step has no meaning. -/
inductive Refusal where
  /-- Raised by `exec`'s arm of an operation that has no meaning yet; none is left. Safe: the model
  stops. -/
  | notModelled (mnemonic : String)
  /-- Raised by `step` when the next item is no encoding of any operation (log 2). Safe: the model
  stops, and no bus access, strobe, frame or response of the spec is such an item. -/
  | illFormedInput (why : DecodeError)
  deriving DecidableEq, Repr

/-- Buffers as every session starts with them (10_state.md R62). -/
def RxState.empty : RxState := ⟨[], [], false, false⟩

/-- Queues as every session starts with them (10_state.md R62). -/
def TxState.empty : TxState := ⟨[], []⟩

/-- No pulse, no bus answer. -/
def Ports.quiet : Ports := ⟨false, none, none, false, none⟩

/-- LAST_ERR = 0. -/
def LastErr.clear : LastErr := ⟨.none, 0#4, 0#4⟩

/-- An all-zero script entry. -/
def ScriptEntry.zero : ScriptEntry := ⟨0#5, 0#8, 0#8, 0#16, Vector.replicate 6 0#32⟩

/-- The host registers at reset (10_state.md R67). A_CMD_SEL is the OPEN parameter (log 4). -/
def HostRegs.reset : HostRegs where
  ctrl := ⟨0#2, false, false, true⟩
  irqEn := 0#11
  channel := 0#8
  baudCount := 0#4
  baudOverride := 0#32
  baudCand := Vector.replicate 8 0#32
  seqTimeout := Config.seqTimeoutRst
  aInv := Config.aCmdInvRst
  aBuf := Config.aCmdBufRst
  initCount := 0#4
  script := Vector.replicate 8 ScriptEntry.zero

/-- The session at reset (10_state.md R67). -/
def Session.reset : Session where
  seq := .idle
  fam := .a
  chan := 0#8
  waitResp := false
  cand := List.replicate 8 0#32
  ncand := 0#4
  ci := 0#4
  k := 0#4
  timer := 0#17
  handleOpen := false
  chosenBaud := 0#32
  lastErr := LastErr.clear

/-- The log at reset (10_state.md R67). -/
def Log.reset : Log := ⟨0#10, 0#32, 0#32, 0#32, 0#32, 0#32, 0#32, 0#32, 0#16⟩

/-- The machine right after reset (10_state.md R67), with no event to come. Where `drawn`
starts is the model's (log 10). -/
def State.reset : State where
  regs := HostRegs.reset
  sess := Session.reset
  rx := RxState.empty
  tx := TxState.empty
  evt := []
  eng := ⟨Config.crcInit, 0#8⟩
  log := Log.reset
  ports := Ports.quiet
  inputs := []
  drawn := 0

end Sys2Proof.Machine
end

