-- ==== Sys2Proof/Machine/Flags.lean ====
section
/-!
DEFINITION. The status flags (10_state.md R22): the bits of IRQ_STATUS (R28) with their W1C write
(R65), the STATUS word (R27), the codes these words show, and the `irq` output (60_exceptions.md
R310).
-/

namespace Sys2Proof.Machine

/-- The sticky bits of IRQ_STATUS (R28). -/
inductive IrqBit where
  | connected
  | connFailed
  | evtOvf
  | csumErr
  | frameErr
  | protoErr
  | badCmd
  | txOvf
  | xferErr
  | partialBatch
  deriving DecidableEq, Repr

/-- The bit's number in IRQ_STATUS (R28). -/
def IrqBit.num : IrqBit → Nat
  | .connected => 1
  | .connFailed => 2
  | .evtOvf => 3
  | .csumErr => 4
  | .frameErr => 5
  | .protoErr => 6
  | .badCmd => 7
  | .txOvf => 8
  | .xferErr => 9
  | .partialBatch => 10

/-- IRQ_STATUS[10:1] with one bit set: the stored field starts at bit 1. -/
def setIrqBit (irq : BitVec 10) (b : IrqBit) : BitVec 10 :=
  irq ||| (1#10 <<< (b.num - 1))

/-- Set one bit of IRQ_STATUS; it stays set until W1C or reset (R28). -/
def setIrq (b : IrqBit) (s : State) : State :=
  { s with log := { s.log with irq := setIrqBit s.log.irq b } }

/-- IRQ_STATUS[10:0]: bit 0, EVT_AVAIL, is 1 exactly when the event FIFO holds a record (R28). -/
def irqStatus (s : State) : BitVec 11 :=
  s.log.irq ++ BitVec.ofBool (!s.evt.isEmpty)

/-- The W1C write of IRQ_STATUS (R65): each bit of [10:1] whose written bit is 1 is cleared. -/
def clearIrq (v : Word) (s : State) : State :=
  { s with log := { s.log with irq := s.log.irq &&& ~~~(v.extractLsb' 1 10) } }

/-- The level interrupt output `irq` (R310). -/
def irqLine (s : State) : Bool :=
  irqStatus s &&& s.regs.irqEn != 0#11

/-- The code of a sequencer state (R50). -/
def SeqState.code : SeqState → BitVec 3
  | .idle => 0#3
  | .opening => 1#3
  | .initTx => 2#3
  | .initWait => 3#3
  | .initDelay => 4#3
  | .connected => 5#3
  | .failed => 6#3
  | .aborting => 7#3

/-- A connect attempt is running (R27, 43_sequencer.md R221). -/
def SeqState.locked : SeqState → Bool
  | .opening | .initTx | .initWait | .initDelay => true
  | .idle | .connected | .failed | .aborting => false

/-- A transport handle is held and the reader's bytes are taken (40_assembler.md R130; the states
of 43_sequencer.md R229). -/
def SeqState.live : SeqState → Bool
  | .initTx | .initWait | .initDelay | .connected => true
  | .idle | .opening | .failed | .aborting => false

/-- A family's code (30_encoding.md R103). -/
def familyCode : Family → BitVec 2
  | .a => 0#2
  | .b => 1#2
  | .pcsc => 2#2

/-- The family a code names; 3 names none (10_state.md R25). -/
def familyOf (c : BitVec 2) : Option Family :=
  match c.toNat with
  | 0 => some .a
  | 1 => some .b
  | 2 => some .pcsc
  | _ => none

/-- A cause's code (60_exceptions.md R300). -/
def Cause.code : Cause → BitVec 4
  | .none => 0#4
  | .channelBusy => 1#4
  | .deviceNotFound => 2#4
  | .permissionDenied => 3#4
  | .stepTimeout => 4#4
  | .emptyList => 5#4

/-- A record kind's code (30_encoding.md R104). -/
def RecordKind.code : RecordKind → BitVec 4
  | .tag => 1#4
  | .noTags => 2#4
  | .ack => 3#4
  | .protoErr => 4#4

/-- STATUS.PEND_LEVEL: `len(S.pend)` for families A and B, `len(S.pc_buf)` for PC-SC (R27). -/
def pendLevel (s : State) : Nat :=
  match s.sess.fam with
  | .a | .b => s.rx.pend.length
  | .pcsc => s.rx.pcBuf.length

/-- The STATUS word (R27). -/
def statusReg (s : State) : Word :=
  0#7 ++ BitVec.ofNat 9 (pendLevel s) ++ BitVec.ofBool s.sess.seq.locked ++
    BitVec.ofBool s.rx.pcBusy ++ s.sess.k ++ s.sess.ci ++ familyCode s.sess.fam ++
    BitVec.ofBool (s.sess.seq == .connected) ++ s.sess.seq.code

end Sys2Proof.Machine
end

