-- ==== Sys2Proof/Machine/Ops.lean ====
section
/-!
DEFINITION. The named operations the rules are written in (00_scope.md R11): reading the next event,
the bus answer, the port pulses, logging (the block's only error mechanism: it takes no traps,
60_exceptions.md R320), the event FIFO and the transmit queues.
-/

namespace Sys2Proof.Machine

/-! ### The next event -/

/-- The registers the frame selectors read, sampled now (30_encoding.md R106; 10_state.md R25,
R36). -/
def selectorsOf (s : State) : Selectors :=
  ⟨s.regs.ctrl.strictA, s.regs.aInv, s.regs.aBuf⟩

/-- The next event and those after it. -/
def fetch (s : State) : Option (Input × List Input) :=
  match s.inputs with
  | [] => none
  | inp :: rest => some (inp, rest)

/-- The start of a step: the pulses and the bus answer of the step before are over (log 8), and the
events after the one taken remain. -/
def beginStep (rest : List Input) (s : State) : State :=
  { s with ports := Ports.quiet, inputs := rest }

/-! ### Port outputs -/

/-- A read completes with `bus_rdata` = v and no `bus_err` (20_memory.md R72). -/
def busReturn (v : Word) (s : State) : State :=
  { s with ports := { s.ports with busErr := false, busRdata := some v } }

/-- `raise BusError`: `bus_err` = 1, `bus_rdata` = 0, no state change (20_memory.md R71). -/
def raiseBusError (s : State) : State :=
  { s with ports := { s.ports with busErr := true, busRdata := some 0#32 } }

/-- `emit_open(chan, baud)` (43_sequencer.md R222). -/
def emitOpen (chan : Byte) (baud : Word) (s : State) : State :=
  { s with ports := { s.ports with openReq := some (chan, baud) } }

/-- `emit_close()` (43_sequencer.md R222). -/
def emitClose (s : State) : State :=
  { s with ports := { s.ports with closeReq := true } }

/-- `rx_ready`, always 1 (00_scope.md R14). -/
def rxReady (_ : State) : Bool := true

/-- The byte offered to the transport, `(tx_data, tx_last)`; none when `tx_valid` = 0
(43_sequencer.md R224). -/
def txOffer (s : State) : Option (Byte × Bool) :=
  match s.tx.txq with
  | e :: _ => some e
  | [] =>
    match s.tx.htx with
    | b :: _ => if s.sess.seq = .connected then some (b, false) else none
    | [] => none

/-- `tx_valid` (43_sequencer.md R224). -/
def txValid (s : State) : Bool := (txOffer s).isSome

/-! ### Logging (60_exceptions.md R301) -/

/-- The conditions that count and flag (R301). -/
inductive LogCause where
  | csumErr
  | frameErr
  | protoErr
  | evtOvf
  | partialBatch
  deriving DecidableEq, Repr

/-- The IRQ_STATUS bit of a logged condition (R301). -/
def LogCause.irqBit : LogCause → IrqBit
  | .csumErr => .csumErr
  | .frameErr => .frameErr
  | .protoErr => .protoErr
  | .evtOvf => .evtOvf
  | .partialBatch => .partialBatch

/-- The counter of a logged condition incremented, modulo 2^32 (10_state.md R66). -/
def bumpCounter (c : LogCause) (l : Log) : Log :=
  match c with
  | .csumErr => { l with csumErr := l.csumErr + 1 }
  | .frameErr => { l with frameErr := l.frameErr + 1 }
  | .protoErr => { l with protoErr := l.protoErr + 1 }
  | .evtOvf => { l with evtOvf := l.evtOvf + 1 }
  | .partialBatch => { l with partialBatch := l.partialBatch + 1 }

/-- `log(CAUSE)`: the counter and the bit, in the same step, and no change of control (R301). The
one shared operation by which every error is recorded. -/
def logCause (c : LogCause) (s : State) : State :=
  setIrq c.irqBit { s with log := bumpCounter c s.log }

/-- `frame_error()` (42_decoders.md R203). -/
def frameError (s : State) : State := logCause .frameErr s

/-- `proto_error(code)` (42_decoders.md R201). -/
def protoError (code : BitVec 16) (s : State) : State :=
  logCause .protoErr { s with log := { s.log with protoCode := code } }

/-- One frame or PC-SC response completed: CNT_FRAMES (10_state.md R44). -/
def countFrame (s : State) : State :=
  { s with log := { s.log with frames := s.log.frames + 1 } }

/-- n received bytes discarded: CNT_DISCARD (10_state.md R44). -/
def countDiscard (n : Nat) (s : State) : State :=
  { s with log := { s.log with discard := s.log.discard + BitVec.ofNat 32 n } }

/-! ### The event FIFO and the transmit queues -/

/-- `push_evt(rec)` (42_decoders.md R200): a full FIFO keeps what it holds and loses the new
record. -/
def pushEvt (r : Record) (s : State) : State :=
  if s.evt.length < Config.evtDepth then { s with evt := s.evt ++ [r] } else logCause .evtOvf s

/-- The records of one outcome, pushed one by one in order (R200, R202). -/
def publish (rs : List Record) (s : State) : State :=
  rs.foldl (fun s r => pushEvt r s) s

/-- The pairs `txq_push(bytes, last)` queues: `last` on the final byte only (43_sequencer.md
R223). -/
def txPairs : List Byte → Bool → List (Byte × Bool)
  | [], _ => []
  | [b], last => [(b, last)]
  | b :: bs, last => (b, false) :: txPairs bs last

/-- These pairs fit in the internal transmit queue (10_state.md R58). -/
def txqFits (q : List (Byte × Bool)) : Bool := q.length ≤ Config.txqDepth

/-- The internal transmit queue after it was given q: q where it fits, and else a free value within
the bound (10_state.md R58; log 10). -/
def txqHold (drawn : Nat) (q : List (Byte × Bool)) : List (Byte × Bool) :=
  if txqFits q then q else (Config.txqOverfull drawn).take Config.txqDepth

/-- `txq_push(bytes, last)` (R223), the queue never holding more than 24 pairs (10_state.md R58). The
spec holds the queue to be empty at every use (R223); a PC-SC response that ends before its command
was sent makes it otherwise, and then the pairs may not fit (log 10). -/
def txqPush (bytes : List Byte) (last : Bool) (s : State) : State :=
  { s with
    tx := { s.tx with txq := txqHold s.drawn (s.tx.txq ++ txPairs bytes last) }
    drawn := if txqFits (s.tx.txq ++ txPairs bytes last) then s.drawn else s.drawn + 1 }

/-- Entry k of the init script. INIT steps run with k < 8 (10_state.md R53); an index past the
script, which no reachable state reads, gives the all-zero entry (log 12). -/
def scriptAt (s : State) (k : BitVec 4) : ScriptEntry :=
  (s.regs.script[k.toNat]?).getD ScriptEntry.zero

/-- Candidate i of the latched list. The sequencer reads it with i < ncand; an index past the list,
which no reachable state reads, gives 0 (log 12). -/
def candAt (s : State) (i : BitVec 4) : Word :=
  s.sess.cand.getD i.toNat 0#32

/-- A script entry's bytes: byte j is lane j%4 of DATA[j/4], for j below NBYTES (43_sequencer.md
R228). -/
def ScriptEntry.bytes (e : ScriptEntry) : List Byte :=
  (e.data.toList.flatMap wordBytes).take e.nbytes.toNat

end Sys2Proof.Machine
end

