-- ==== Sys2Proof/Machine/Registers.lean ====
section
/-!
DEFINITION. What every register reads (44_host_ops.md R269) and how a write is made legal
(R267), after 10_state.md §2; `regRead` is the whole register window (20_memory.md R72, R74).
-/

namespace Sys2Proof.Machine

/-! ### Reads -/

/-- CTRL (10_state.md R25). -/
def readCtrl (s : State) : Word :=
  let c := s.regs.ctrl
  0#27 ++ BitVec.ofBool c.initWaitResp ++ BitVec.ofBool c.baudOvrEn ++ BitVec.ofBool c.strictA ++
    c.family

/-- IRQ_STATUS (R28). -/
def readIrqStatus (s : State) : Word := (irqStatus s).zeroExtend 32

/-- IRQ_EN (R29). -/
def readIrqEn (s : State) : Word := s.regs.irqEn.zeroExtend 32

/-- CHANNEL (R30). -/
def readChannel (s : State) : Word := s.regs.channel.zeroExtend 32

/-- BAUD_COUNT (R31). -/
def readBaudCount (s : State) : Word := s.regs.baudCount.zeroExtend 32

/-- BAUD_OVERRIDE (R32). -/
def readBaudOverride (s : State) : Word := s.regs.baudOverride

/-- CHOSEN_BAUD (R33). -/
def readChosenBaud (s : State) : Word := s.sess.chosenBaud

/-- LAST_ERR (R34). -/
def readLastErr (s : State) : Word :=
  let e := s.sess.lastErr
  0#20 ++ e.stepIdx ++ e.candIdx ++ e.cause.code

/-- SEQ_TIMEOUT (R35). -/
def readSeqTimeout (s : State) : Word := s.regs.seqTimeout.zeroExtend 32

/-- A_CMD_SEL (R36). -/
def readACmdSel (s : State) : Word := 0#16 ++ s.regs.aBuf ++ s.regs.aInv

/-- INIT_COUNT (R37). -/
def readInitCount (s : State) : Word := s.regs.initCount.zeroExtend 32

/-- CRC_VALUE (R38, 41_checksum_crc.md R165). -/
def readCrcValue (s : State) : Word := s.eng.crc.zeroExtend 32

/-- XOR_VALUE (R40, 41_checksum_crc.md R174). -/
def readXorValue (s : State) : Word := s.eng.xacc.zeroExtend 32

/-- TX_LEVEL (R43). -/
def readTxLevel (s : State) : Word := (BitVec.ofNat 16 s.tx.htx.length).zeroExtend 32

/-- LAST_PROTO_CODE (R45). -/
def readLastProtoCode (s : State) : Word := s.log.protoCode.zeroExtend 32

/-- EVT_LEVEL (R46). -/
def readEvtLevel (s : State) : Word := (BitVec.ofNat 16 s.evt.length).zeroExtend 32

/-- A record as EVT_HEAD shows it (30_encoding.md R104). -/
def Record.headWord (r : Record) : Word :=
  0#7 ++ BitVec.ofNat 9 r.id.length ++ r.cmd ++ 0#1 ++ BitVec.ofBool r.csumBad ++
    familyCode r.fam ++ r.kind.code

/-- A record as EVT_AUX shows it (30_encoding.md R104, 10_state.md R48). -/
def Record.auxWord (r : Record) : Word := 0#8 ++ r.addr ++ r.code

/-- EVT_HEAD: the head record, 0 on an empty FIFO (R47). -/
def readEvtHead (s : State) : Word :=
  match s.evt with
  | [] => 0#32
  | r :: _ => r.headWord

/-- EVT_AUX: the head record, 0 on an empty FIFO (R47, R48). -/
def readEvtAux (s : State) : Word :=
  match s.evt with
  | [] => 0#32
  | r :: _ => r.auxWord

/-- EVT_DATA[w]: identifier bytes 4w to 4w+3 of the head record, 0 on an empty FIFO (R47). -/
def readEvtData (w : BitVec 6) (s : State) : Word :=
  match s.evt with
  | [] => 0#32
  | r :: _ => packedWord r.id w.toNat

/-- BAUD_CAND[n] (R32). -/
def readBaudCand (n : BitVec 3) (s : State) : Word := s.regs.baudCand[n.toNat]'n.isLt

/-- Word w of a script entry: 0 SPEC, 1 DELAY, 2 to 7 DATA[0..5] (R49). -/
def ScriptEntry.word (e : ScriptEntry) (w : BitVec 3) : Word :=
  if w = 0#3 then 0#8 ++ e.expCmd ++ e.expAddr ++ 0#3 ++ e.nbytes
  else if w = 1#3 then 0#16 ++ e.delay
  else (e.data[w.toNat - 2]?).getD 0#32

/-- Word w of INIT_SCRIPT[k] (R49). -/
def readInitScript (k w : BitVec 3) (s : State) : Word := (s.regs.script[k.toNat]'k.isLt).word w

/-! ### Legal values (44_host_ops.md R267) -/

/-- `min(v[3:0], 8)`: BAUD_COUNT.N (R31). -/
def legalBaudCount (v : Word) : BitVec 4 :=
  let n := v.extractLsb' 0 4
  if n ≤ Config.baudMax then n else Config.baudMax

/-- `min(v[3:0], 8)`: INIT_COUNT.N (R37). -/
def legalInitCount (v : Word) : BitVec 4 :=
  let n := v.extractLsb' 0 4
  if n ≤ Config.initMax then n else Config.initMax

/-- `min(v[4:0], 24)`: SPEC.NBYTES (R49). -/
def legalNbytes (v : Word) : BitVec 5 :=
  let n := v.extractLsb' 0 5
  if n ≤ Config.initBytes then n else Config.initBytes

/-- CTRL from a written word (R25). -/
def ctrlOf (v : Word) : Ctrl :=
  ⟨v.extractLsb' 0 2, v.getLsbD 2, v.getLsbD 3, v.getLsbD 4⟩

/-- A script entry with word w written (R49). -/
def ScriptEntry.setWord (e : ScriptEntry) (w : BitVec 3) (v : Word) : ScriptEntry :=
  if w = 0#3 then
    { e with nbytes := legalNbytes v, expAddr := v.extractLsb' 8 8, expCmd := v.extractLsb' 16 8 }
  else if w = 1#3 then { e with delay := v.extractLsb' 0 16 }
  else { e with data := e.data.setIfInBounds (w.toNat - 2) v }

/-! ### The register window -/

/-- What a word read of an offset returns (20_memory.md R72, R74): the register, 0 for a write-only
register (10_state.md R64) and for an unlisted offset. -/
def regRead (off : Offset) (s : State) : Word :=
  match decodeRead off 0#32 with
  | .rdId => Config.partId
  | .rdCtrl => readCtrl s
  | .rdStatus => statusReg s
  | .rdIrqStatus => readIrqStatus s
  | .rdIrqEn => readIrqEn s
  | .rdChannel => readChannel s
  | .rdBaudCount => readBaudCount s
  | .rdBaudOverride => readBaudOverride s
  | .rdChosenBaud => readChosenBaud s
  | .rdLastErr => readLastErr s
  | .rdSeqTimeout => readSeqTimeout s
  | .rdACmdSel => readACmdSel s
  | .rdInitCount => readInitCount s
  | .rdCrcValue => readCrcValue s
  | .rdXorValue => readXorValue s
  | .rdTxLevel => readTxLevel s
  | .rdCntFrames => s.log.frames
  | .rdCntCsumErr => s.log.csumErr
  | .rdCntFrameErr => s.log.frameErr
  | .rdCntProtoErr => s.log.protoErr
  | .rdCntEvtOvf => s.log.evtOvf
  | .rdCntPartial => s.log.partialBatch
  | .rdCntDiscard => s.log.discard
  | .rdLastProtoCode => readLastProtoCode s
  | .rdEvtLevel => readEvtLevel s
  | .rdEvtHead => readEvtHead s
  | .rdEvtAux => readEvtAux s
  | .rdBaudCand n => readBaudCand n s
  | .rdInitScript k w => readInitScript k w s
  | .rdEvtData w => readEvtData w s
  | _ => 0#32

end Sys2Proof.Machine
end

