-- ==== Sys2Proof/Machine/Sequencer.lean ====
section
/-!
DEFINITION. The multi-baud-rate detector and synchroniser: the state machine of 43_sequencer.md,
each transition by the rule named.
-/

namespace Sys2Proof.Machine

/-! ### Entering CONNECTED, and running the init script -/

/-- `enter_connected()` (R234). -/
def enterConnected (s : State) : State :=
  setIrq .connected
    { s with sess := { s.sess with
        seq := .connected, timer := 0#17,
        chosenBaud := if s.sess.fam = .pcsc then 0#32 else candAt s s.sess.ci } }

/-- `enter_delay()` (R232), `adv` being what completes the step when there is no delay. -/
def enterDelayWith (adv : State → State) (s : State) : State :=
  let d := (scriptAt s s.sess.k).delay
  if d = 0#16 then adv s
  else { s with sess := { s.sess with seq := .initDelay, timer := d.zeroExtend 17 + 1 } }

/-- `finish_tx()` (R232). -/
def finishTxWith (adv : State → State) (s : State) : State :=
  if s.sess.waitResp then
    { s with sess := { s.sess with
        seq := .initWait, timer := s.regs.seqTimeout.zeroExtend 17 + 1 } }
  else enterDelayWith adv s

/-- `start_step()` (R228): an entry with no byte finishes at once. -/
def startStepWith (adv : State → State) (s : State) : State :=
  let e := scriptAt s s.sess.k
  let s := txqPush e.bytes true { s with sess := { s.sess with seq := .initTx } }
  if e.nbytes = 0#5 then finishTxWith adv s else s

/-- `advance()` (R238), with a bound on the steps that complete at once: an entry with no byte, no
response wait and no delay runs `advance` again (R228, R232). -/
def advanceFuel : Nat → State → State
  | 0, s => s
  | n + 1, s =>
    let s := { s with sess := { s.sess with timer := 0#17, k := s.sess.k + 1 } }
    if s.sess.k = s.regs.initCount then enterConnected s else startStepWith (advanceFuel n) s

/-- `advance()` (R238). Sixteen is enough for every state: k has 4 bits, so it meets INIT_COUNT.N
within sixteen increments (log 12). -/
def advance (s : State) : State := advanceFuel 16 s

/-- `enter_delay()` (R232). -/
def enterDelay (s : State) : State := enterDelayWith advance s

/-- `finish_tx()` (R232). -/
def finishTx (s : State) : State := finishTxWith advance s

/-- `start_step()` (R228). -/
def startStep (s : State) : State := startStepWith advance s

/-- `step_response_matched()` (R237). -/
def stepResponseMatched (s : State) : State :=
  enterDelay { s with sess := { s.sess with timer := 0#17 } }

/-! ### A failed candidate -/

/-- `fail_cand(cause, step)` (R233): record the failure, drop the bytes of the old rate, and open
the next candidate or fail for good. -/
def failCand (cause : Cause) (step : BitVec 4) (s : State) : State :=
  let s := { s with
    sess := { s.sess with
      lastErr := ⟨cause, s.sess.ci, step⟩, ci := s.sess.ci + 1, k := 0#4, timer := 0#17 }
    rx := { s.rx with pend := [] }
    tx := { s.tx with txq := [] } }
  if s.sess.ci = s.sess.ncand then
    setIrq .connFailed { s with sess := { s.sess with seq := .failed } }
  else
    emitOpen s.sess.chan (candAt s s.sess.ci) { s with sess := { s.sess with seq := .opening } }

/-! ### CONNECT, DISCONNECT, teardown -/

/-- `teardown()` (R230). -/
def teardown (s : State) : State :=
  let s := { s with rx := RxState.empty, tx := TxState.empty, sess := { s.sess with timer := 0#17 } }
  if s.sess.handleOpen then
    emitClose { s with sess := { s.sess with handleOpen := false } }
  else s

/-- The candidate list CONNECT latches, and its length (R227). -/
def candidates (fam : Family) (r : HostRegs) : List Word × BitVec 4 :=
  match fam with
  | .pcsc => ([0#32], 1#4)
  | .a | .b =>
    if r.ctrl.baudOvrEn then ([r.baudOverride], 1#4) else (r.baudCand.toList, r.baudCount)

/-- What `connect()` latches and clears (R227), for a family. -/
def latchSession (fam : Family) (s : State) : State :=
  { s with
    rx := RxState.empty
    tx := TxState.empty
    sess := { s.sess with
      fam := fam
      chan := s.regs.channel
      waitResp := s.regs.ctrl.initWaitResp
      cand := (candidates fam s.regs).1
      ncand := (candidates fam s.regs).2
      ci := 0#4
      k := 0#4
      timer := 0#17
      chosenBaud := 0#32
      lastErr := LastErr.clear } }

/-- `connect()` (R227), tearing a live session down first (R229). -/
def connect (fam : Family) (s : State) : State :=
  let s := latchSession fam (if s.sess.seq.live then teardown s else s)
  if s.sess.ncand = 0#4 then
    setIrq .connFailed
      { s with sess := { s.sess with seq := .failed, lastErr := ⟨.emptyList, 0#4, 0#4⟩ } }
  else
    emitOpen s.sess.chan (candAt s 0#4) { s with sess := { s.sess with seq := .opening } }

/-- CONNECT (R226): refused with BAD_CMD when CTRL.FAMILY names no family or an open is in
flight. -/
def cmdConnect (s : State) : State :=
  match familyOf s.regs.ctrl.family with
  | none => setIrq .badCmd s
  | some fam =>
    if s.sess.seq = .opening ∨ s.sess.seq = .aborting then setIrq .badCmd s else connect fam s

/-- DISCONNECT (R231). -/
def cmdDisconnect (s : State) : State :=
  match s.sess.seq with
  | .idle | .aborting => s
  | .failed =>
    { s with
      tx := { s.tx with htx := [] }
      sess := { s.sess with ci := 0#4, k := 0#4, seq := .idle } }
  | .opening =>
    let s := teardown s
    { s with sess := { s.sess with seq := .aborting } }
  | .initTx | .initWait | .initDelay | .connected =>
    let s := teardown s
    { s with sess := { s.sess with ci := 0#4, k := 0#4, seq := .idle } }

/-! ### Port events of the sequencer -/

/-- The cause an `open_err` gives (R235, 60_exceptions.md R300): 0 is read as channel busy. -/
def openCause (err : BitVec 2) : Cause :=
  if err = 2#2 then .deviceNotFound else if err = 3#2 then .permissionDenied else .channelBusy

/-- OPEN_RSP (R235). An answer in any state but OPENING and ABORTING is ignored. -/
def onOpenRsp (ok : Bool) (err : BitVec 2) (s : State) : State :=
  match s.sess.seq with
  | .aborting =>
    let s := if ok then emitClose s else s
    { s with sess := { s.sess with ci := 0#4, k := 0#4, seq := .idle } }
  | .opening =>
    if ok then
      let s := { s with sess := { s.sess with handleOpen := true } }
      if s.sess.fam = .pcsc ∨ s.regs.initCount = 0#4 then enterConnected s
      else startStep { s with sess := { s.sess with k := 0#4 } }
    else failCand (openCause err) 0#4 s
  | .idle | .initTx | .initWait | .initDelay | .connected | .failed => s

/-- The wait of INIT_WAIT or INIT_DELAY is over (R236). -/
def timerExpired (s : State) : State :=
  if s.sess.seq = .initWait then
    failCand .stepTimeout s.sess.k (emitClose { s with sess := { s.sess with handleOpen := false } })
  else advance s

/-- TICK (R236). -/
def onTick (s : State) : State :=
  if (s.sess.seq = .initWait ∨ s.sess.seq = .initDelay) ∧ s.sess.timer ≠ 0#17 then
    let s := { s with sess := { s.sess with timer := s.sess.timer - 1 } }
    if s.sess.timer = 0#17 then timerExpired s else s
  else s

/-- TX_BEAT (R224): the transport takes the byte offered. With `tx_valid` = 0 there is no beat and
nothing happens (log 7). -/
def onTxBeat (s : State) : State :=
  match s.tx.txq with
  | e :: rest =>
    let s := { s with
      tx := { s.tx with txq := rest }
      ports := { s.ports with txBeat := some e } }
    if rest = [] ∧ s.sess.seq = .initTx then finishTx s else s
  | [] =>
    match s.tx.htx with
    | b :: rest =>
      if s.sess.seq = .connected then
        { s with
          tx := { s.tx with htx := rest }
          ports := { s.ports with txBeat := some (b, false) } }
      else s
    | [] => s

end Sys2Proof.Machine
end

