-- ==== Sys2Proof/Machine/Decoders.lean ====
section
/-!
DEFINITION. The protocol-family demultiplexer and tag-identifier extractor of 42_decoders.md. Each
decoder is a pure function from a frame to what it found (R204); `deliver` logs it and routes its
records (R202), and PC-SC publishes directly (R197).
-/

namespace Sys2Proof.Machine

/-- A decoded outcome: the source's DecodedOutcome with the spec's FrameError (00_scope.md R16), and
`dropped` for a frame that fails its integrity check (30_encoding.md R106). -/
inductive FrameOutcome where
  | ack
  | tagBatch (ids : List (List Byte))
  | noTags
  | protocolError (code : BitVec 16)
  | frameError
  | dropped
  deriving DecidableEq, Repr

/-- What a decoder finds in one frame. -/
structure Decoded where
  /-- the (ADDR, CMD) header, when the frame passed its integrity checks (R202) -/
  hdr : Option (Byte × Byte)
  /-- a checksum or CRC mismatch is logged (R181, R190) -/
  csumErr : Bool
  /-- the tag batch was cut short by missing data (R185, R192) -/
  cut : Bool
  outcome : FrameOutcome
  deriving DecidableEq, Repr

/-! ### Family A -/

/-- The frame has no byte at P_A_STATUS_IDX before its checksum (R183, R185). -/
def noStatusA (f : List Byte) : Bool := f.length < Config.aStatusIdx + 2

/-- The identifier of an inventory response: f[s+1 .. total-1-t] (R184). -/
def inventoryIdA (f : List Byte) : List Byte :=
  slice f (Config.aStatusIdx + 1) (f.length - 1 - Config.aInvIdEndTrim)

/-- The outcome of an inventory response (R183, R184). -/
def outcomeInventoryA (f : List Byte) : FrameOutcome :=
  if noStatusA f then .frameError
  else
    let st := byteAt f Config.aStatusIdx
    if st = 0x01#8 then
      if inventoryIdA f = [] then .frameError else .tagBatch [inventoryIdA f]
    else if st = 0x00#8 then .noTags
    else .protocolError (st.zeroExtend 16)

/-- Slot j of a buffer response lies before the checksum byte (30_encoding.md R96). -/
def slotFits (f : List Byte) (j : Nat) : Bool :=
  Config.aStatusIdx + Config.aSlot + Config.aSlot * j + 2 ≤ f.length

/-- Slot j of a buffer response (30_encoding.md R96). -/
def slotAt (f : List Byte) (j : Nat) : List Byte :=
  slice f (Config.aStatusIdx + 1 + Config.aSlot * j)
    (Config.aStatusIdx + Config.aSlot + Config.aSlot * j)

/-- `count` slots from slot j on: those that fit, and whether the data ran out (R185). -/
def slotsFrom (f : List Byte) : (count j : Nat) → List (List Byte) × Bool
  | 0, _ => ([], false)
  | n + 1, j =>
    if slotFits f j then
      let r := slotsFrom f n (j + 1)
      (slotAt f j :: r.1, r.2)
    else ([], true)

/-- No identifier is NoTags, some are a TagBatch (R185, R192). -/
def batchOutcome (ids : List (List Byte)) : FrameOutcome :=
  if ids = [] then .noTags else .tagBatch ids

/-- The slots of a buffer response: COUNT of them, while the data lasts (R185). -/
def bufferSlotsA (f : List Byte) : List (List Byte) × Bool :=
  slotsFrom f (byteAt f Config.aStatusIdx).toNat 0

/-- R180: a length-malformed frame has no header and is not checked. -/
def decodeAFrameError (_f : List Byte) : Decoded := ⟨none, false, false, .frameError⟩

/-- R181: a mismatch under strict mode drops the frame, header and all. -/
def decodeAStrictDrop (_f : List Byte) : Decoded := ⟨none, true, false, .dropped⟩

/-- R181 to R184: an inventory response. -/
def decodeAInventory (f : List Byte) : Decoded :=
  ⟨some (headerOfA f), !csumOk f, false, outcomeInventoryA f⟩

/-- R181, R185: a buffer response. -/
def decodeABuffer (f : List Byte) : Decoded :=
  if noStatusA f then ⟨some (headerOfA f), !csumOk f, false, .frameError⟩
  else ⟨some (headerOfA f), !csumOk f, (bufferSlotsA f).2, batchOutcome (bufferSlotsA f).1⟩

/-- R181, R186: any other CMD is an acknowledgement. -/
def decodeAAck (f : List Byte) : Decoded :=
  ⟨some (headerOfA f), !csumOk f, false, .ack⟩

/-! ### Family B -/

/-- The record walk of R192: `count` records from index p, within indexes up to `total - 3`. -/
def recordsFrom (f : List Byte) : (count p : Nat) → List (List Byte) × Bool
  | 0, _ => ([], false)
  | n + 1, p =>
    if p + 3 ≤ f.length then
      let l := (byteAt f p).toNat
      if p + l + 3 ≤ f.length then
        let r := recordsFrom f n (p + 1 + l)
        (if l = 0 then r.1 else slice f (p + 1) (p + l) :: r.1, r.2)
      else ([], true)
    else ([], true)

/-- The tag records of an inventory response: COUNT at f[4], records from f[5] (R192). -/
def tagRecordsB (f : List Byte) : List (List Byte) × Bool :=
  recordsFrom f (byteAt f 4).toNat 5

/-- The status is one that carries tag records (30_encoding.md R100). -/
def carriesTagsB (st : Byte) : Bool := Config.bTagStatusSet.contains st

/-- R190: a CRC mismatch drops the whole frame. -/
def decodeBCrcDrop (_f : List Byte) : Decoded := ⟨none, true, false, .dropped⟩

/-- R191 to R193: an inventory response. -/
def decodeBInventory (f : List Byte) : Decoded :=
  let h := some (headerOfB f)
  if f.length < 6 then ⟨h, false, false, .frameError⟩
  else
    let st := byteAt f 3
    if st = Config.bStatusNoTags then ⟨h, false, false, .noTags⟩
    else if !carriesTagsB st then ⟨h, false, false, .protocolError (st.zeroExtend 16)⟩
    else if f.length < 7 then ⟨h, false, false, .frameError⟩
    else ⟨h, false, (tagRecordsB f).2, batchOutcome (tagRecordsB f).1⟩

/-- R194: any other CMD is an acknowledgement. -/
def decodeBAck (f : List Byte) : Decoded := ⟨some (headerOfB f), false, false, .ack⟩

/-! ### Records, logging and routing -/

/-- The records of an outcome (00_scope.md R19; fields by 30_encoding.md R104): `rec` of R200 with
the frame's (ADDR, CMD) and checksum flag. -/
def recordsOf (fam : Family) (hdr : Byte × Byte) (csumBad : Bool) : FrameOutcome → List Record
  | .ack => [⟨.ack, fam, csumBad, hdr.2, hdr.1, 0#16, []⟩]
  | .tagBatch ids => ids.map fun id => ⟨.tag, fam, csumBad, hdr.2, hdr.1, 0#16, id⟩
  | .noTags => [⟨.noTags, fam, csumBad, hdr.2, hdr.1, 0#16, []⟩]
  | .protocolError code => [⟨.protoErr, fam, csumBad, hdr.2, hdr.1, code, []⟩]
  | .frameError => []
  | .dropped => []

/-- The outcome's own log entry: FrameError (R203) and ProtocolError (R201). -/
def logOutcome (o : FrameOutcome) (s : State) : State :=
  match o with
  | .frameError => frameError s
  | .protocolError code => protoError code s
  | .ack | .tagBatch _ | .noTags | .dropped => s

/-- Everything a decoded frame logs, in every state in which it is decoded (R202). -/
def logDecoded (d : Decoded) (s : State) : State :=
  let s := if d.csumErr then logCause .csumErr s else s
  let s := if d.cut then logCause .partialBatch s else s
  logOutcome d.outcome s

/-- The (ADDR, CMD) that completes the init step being waited for (R202, R237). -/
def expectedHeader (s : State) : Byte × Byte :=
  ((scriptAt s s.sess.k).expAddr, (scriptAt s s.sess.k).expCmd)

/-- `route(hdr, recs)` (R202): records are published in CONNECTED only; in INIT_WAIT the expected
header completes the step. -/
def route (hdr : Option (Byte × Byte)) (recs : List Record) (s : State) : State :=
  if s.sess.seq = .connected then publish recs s
  else if s.sess.seq = .initWait ∧ hdr = some (expectedHeader s) then stepResponseMatched s
  else s

/-- A family A or B frame's end: log what it shows, then route its records (R180, R190). A frame
with no header has no record. -/
def deliver (fam : Family) (d : Decoded) (s : State) : State :=
  let recs := match d.hdr with
    | none => []
    | some h => recordsOf fam h d.csumErr d.outcome
  route d.hdr recs (logDecoded d s)

/-! ### The rows of R106 on a completed frame -/

/-- A_FRAME_ERROR (R180). -/
def rowAFrameError (f : List Byte) (s : State) : State := deliver .a (decodeAFrameError f) s

/-- A_STRICT_DROP (R181). -/
def rowAStrictDrop (f : List Byte) (s : State) : State := deliver .a (decodeAStrictDrop f) s

/-- A_INVENTORY (R183, R184). -/
def rowAInventory (f : List Byte) (s : State) : State := deliver .a (decodeAInventory f) s

/-- A_BUFFER (R185). -/
def rowABuffer (f : List Byte) (s : State) : State := deliver .a (decodeABuffer f) s

/-- A_ACK (R186). -/
def rowAAck (f : List Byte) (s : State) : State := deliver .a (decodeAAck f) s

/-- B_CRC_DROP (R190). -/
def rowBCrcDrop (f : List Byte) (s : State) : State := deliver .b (decodeBCrcDrop f) s

/-- B_INVENTORY (R191 to R193). -/
def rowBInventory (f : List Byte) (s : State) : State := deliver .b (decodeBInventory f) s

/-- B_ACK (R194). -/
def rowBAck (f : List Byte) (s : State) : State := deliver .b (decodeBAck f) s

/-- A PC-SC outcome: CMD 0, ADDR 0, pushed directly (R197). -/
def deliverPcsc (o : FrameOutcome) (s : State) : State :=
  publish (recordsOf .pcsc (0#8, 0#8) false o) (logOutcome o s)

/-- PCSC_FRAME_ERROR (R197). -/
def rowPcscFrameError (s : State) : State := deliverPcsc .frameError s

/-- PCSC_NOTAGS (R197). -/
def rowPcscNotags (s : State) : State := deliverPcsc .noTags s

/-- PCSC_TAG (R197). -/
def rowPcscTag (uid : List Byte) (s : State) : State := deliverPcsc (.tagBatch [uid]) s

/-- PCSC_PROTO_ERROR (R197). -/
def rowPcscProtoError (r : List Byte) (s : State) : State :=
  deliverPcsc (.protocolError (statusWord r)) s

/-- `frame_done_A(f)` (R180): the row that R106 selects, by the registers as they are now. -/
def frameDoneA (f : List Byte) (s : State) : State :=
  match selectA (selectorsOf s) f with
  | .frameError => rowAFrameError f s
  | .strictDrop => rowAStrictDrop f s
  | .inventory => rowAInventory f s
  | .buffer => rowABuffer f s
  | .ack => rowAAck f s

/-- `frame_done_B(f)` (R190). -/
def frameDoneB (f : List Byte) (s : State) : State :=
  match selectB f with
  | .crcDrop => rowBCrcDrop f s
  | .inventory => rowBInventory f s
  | .ack => rowBAck f s

/-- `frame_done_PCSC(r, ovf)` (R197). -/
def frameDonePcsc (r : List Byte) (ovf : Bool) (s : State) : State :=
  match selectPcsc r ovf with
  | .frameError => rowPcscFrameError s
  | .noTags => rowPcscNotags s
  | .tag => rowPcscTag (uidOf r) s
  | .protoError => rowPcscProtoError r s

/-! ### The PC-SC transmit -/

/-- Issue the "get identifier" APDU (R196): in a CONNECTED PC-SC session with none pending. -/
def issueGetUid (s : State) : State :=
  if s.sess.seq = .connected ∧ s.sess.fam = .pcsc ∧ s.rx.pcBusy = false then
    txqPush Config.getUidApdu true
      { s with rx := { s.rx with pcBuf := [], pcOvf := false, pcBusy := true } }
  else s

/-- XFER_ERR (R198): a pending transmit ends; what is queued of its APDU is dropped. -/
def onXferErr (s : State) : State :=
  if s.rx.pcBusy then
    setIrq .xferErr
      { s with
        rx := { s.rx with pcBuf := [], pcOvf := false, pcBusy := false }
        tx := { s.tx with txq := [] } }
  else s

end Sys2Proof.Machine
end

