-- ==== Sys2Proof/Machine/Assembler.lean ====
section
/-!
DEFINITION. The frame reassembler of 40_assembler.md: family A's header-synchronised loop (R131,
R132), family B (R140), the PC-SC response collector (R145), and the receive dispatch (R130).
-/

namespace Sys2Proof.Machine

/-! ### Family A -/

/-- Bytes before the first header byte (R131): the least index of 0xA0, or the length if none. -/
def headerIndex (p : List Byte) : Nat :=
  p.findIdx (· == Config.headerA)

/-- The loop of R131 on the pending buffer, with a bound on its turns: drop what precedes the first
header (all of it if there is none), wait for 3 bytes and then for `total`, else slice one frame
and go on. -/
def assembleA : Nat → State → State
  | 0, s => s
  | n + 1, s =>
    let i := headerIndex s.rx.pend
    let s := countDiscard i { s with rx := { s.rx with pend := s.rx.pend.drop i } }
    if s.rx.pend.length < 3 then s
    else if s.rx.pend.length < totalA s.rx.pend then s
    else
      let total := totalA s.rx.pend
      let frame := s.rx.pend.take total
      assembleA n
        (frameDoneA frame (countFrame { s with rx := { s.rx with pend := s.rx.pend.drop total } }))

/-- `asmA_append(c)` (R131). Every turn but the last slices a frame of at least 3 bytes, so one more
turn than there are bytes is enough. -/
def asmAAppend (c : List Byte) (s : State) : State :=
  let s := { s with rx := { s.rx with pend := s.rx.pend ++ c } }
  assembleA (s.rx.pend.length + 1) s

/-- `asmA_byte(b)` is `asmA_append([b])` (R132). -/
def asmAByte (b : Byte) (s : State) : State := asmAAppend [b] s

/-! ### Family B -/

/-- `asmB_byte(b)` (R140). -/
def asmBByte (b : Byte) (s : State) : State :=
  if s.rx.pend = [] then
    if b.ult Config.bLenMin then frameError s
    else { s with rx := { s.rx with pend := [b] } }
  else
    let p := s.rx.pend ++ [b]
    if p.length = totalB p then
      frameDoneB p (countFrame { s with rx := { s.rx with pend := [] } })
    else { s with rx := { s.rx with pend := p } }

/-! ### PC-SC -/

/-- `pcsc_byte(b, last)` (R145). -/
def pcscByte (b : Byte) (last : Bool) (s : State) : State :=
  let full := Config.pcscMax ≤ s.rx.pcBuf.length
  let buf := if full then s.rx.pcBuf else s.rx.pcBuf ++ [b]
  let ovf := s.rx.pcOvf || full
  if last then
    frameDonePcsc buf ovf
      (countFrame { s with rx := { s.rx with pcBuf := [], pcOvf := false, pcBusy := false } })
  else { s with rx := { s.rx with pcBuf := buf, pcOvf := ovf } }

/-! ### Receive dispatch -/

/-- RX_BYTE (R130): one received byte, by the family of the live session; a byte no rule takes is
discarded and counted. -/
def rxByte (b : Byte) (last : Bool) (s : State) : State :=
  if s.sess.seq.live ∧ s.sess.fam = .a then asmAByte b s
  else if s.sess.seq.live ∧ s.sess.fam = .b then asmBByte b s
  else if s.sess.seq = .connected ∧ s.sess.fam = .pcsc ∧ s.rx.pcBusy then pcscByte b last s
  else countDiscard 1 s

/-- Bytes received one after another with `rx_last` = 0 (the `RX` of 30_encoding.md R110). -/
def rxBytes (bs : List Byte) (s : State) : State :=
  bs.foldl (fun s b => rxByte b false s) s

/-- Bytes received one after another with `rx_last` = 1 on the final one (the `RXL` of R110). -/
def rxBytesLast : List Byte → State → State
  | [], s => s
  | [b], s => rxByte b true s
  | b :: bs, s => rxBytesLast bs (rxByte b false s)

/-! ### Whole frames (log 5) -/

/-- A whole family A or B frame received: at a frame boundary of a live session of that family it
completes, is counted (10_state.md R44) and handed to its row (R147); otherwise its bytes are
received one by one, as R130 says. -/
def receiveFrame (fam : Family) (row : List Byte → State → State) (f : List Byte) (s : State) :
    State :=
  if s.sess.seq.live ∧ s.sess.fam = fam ∧ s.rx.pend = [] then row f (countFrame s)
  else rxBytes f s

/-- A whole PC-SC response received: while one is awaited and none of it has come, it ends the
transmit, is counted and decoded (R145); otherwise its bytes are received one by one. -/
def receiveResponse (row : State → State) (r : List Byte) (s : State) : State :=
  if s.sess.seq = .connected ∧ s.sess.fam = .pcsc ∧ s.rx.pcBusy ∧ s.rx.pcBuf = [] ∧
      s.rx.pcOvf = false ∧ r ≠ [] then
    row (countFrame { s with rx := { s.rx with pcBusy := false } })
  else rxBytesLast r s

end Sys2Proof.Machine
end

