-- ==== Sys2Proof/Machine/Commands.lean ====
section
/-!
DEFINITION. The CMD rows (30_encoding.md R92): each host command as the rules of 44_host_ops.md §1,
43_sequencer.md and 41_checksum_crc.md give it. A write to CMD runs the command at once, as one step
(10_state.md R26); OP alone decides which (R92).
-/

namespace Sys2Proof.Machine

/-- FLUSH_RX (R262): the partial frame or response is dropped, uncounted; `S.pc_busy` stays. -/
def cmdFlushRx (s : State) : State :=
  { s with rx := { s.rx with pend := [], pcBuf := [], pcOvf := false } }

/-- CRC_INIT (41_checksum_crc.md R164): `S.crc <- 0xFFFF`. -/
def cmdCrcInit (s : State) : State :=
  { s with eng := { s.eng with crc := Config.crcInit } }

/-- XOR_INIT (41_checksum_crc.md R173): `S.xacc <- 0x00`. -/
def cmdXorInit (s : State) : State :=
  { s with eng := { s.eng with xacc := 0#8 } }

/-- EVT_POP (R264): the head record is dropped; an empty FIFO stays empty. -/
def cmdEvtPop (s : State) : State := { s with evt := s.evt.tail }

/-- CLR_COUNTERS (R263): the seven counters and LAST_PROTO_CODE; IRQ_STATUS is not changed. -/
def cmdClrCounters (s : State) : State := { s with log := { Log.reset with irq := s.log.irq } }

/-- TX_FLUSH (R265): `S.htx <- []`. -/
def cmdTxFlush (s : State) : State := { s with tx := { s.tx with htx := [] } }

/-- The reserved opcodes (R261): BAD_CMD and nothing else. -/
def cmdReserved (s : State) : State := setIrq .badCmd s

/-- The host command an OP field names (30_encoding.md R92). -/
def runCommand (op : BitVec 4) (s : State) : State :=
  match op.toNat with
  | 0x0 => s
  | 0x1 => cmdConnect s
  | 0x2 => cmdDisconnect s
  | 0x3 => cmdFlushRx s
  | 0x4 => cmdCrcInit s
  | 0x5 => cmdXorInit s
  | 0x6 => cmdEvtPop s
  | 0x7 => cmdClrCounters s
  | 0x8 => cmdTxFlush s
  | _ => cmdReserved s

/-- NOP (44_host_ops.md R260): nothing. -/
def execNop (s : State) : Host.Outcome State Fault Refusal :=
  .next s

/-- CONNECT (43_sequencer.md R226, R227, R229). -/
def execConnect (s : State) : Host.Outcome State Fault Refusal :=
  .next (cmdConnect s)

/-- DISCONNECT (43_sequencer.md R230, R231). -/
def execDisconnect (s : State) : Host.Outcome State Fault Refusal :=
  .next (cmdDisconnect s)

/-- FLUSH_RX (R262). -/
def execFlushRx (s : State) : Host.Outcome State Fault Refusal :=
  .next (cmdFlushRx s)

/-- CRC_INIT (41_checksum_crc.md R164). -/
def execCrcInit (s : State) : Host.Outcome State Fault Refusal :=
  .next (cmdCrcInit s)

/-- XOR_INIT (41_checksum_crc.md R173). -/
def execXorInit (s : State) : Host.Outcome State Fault Refusal :=
  .next (cmdXorInit s)

/-- EVT_POP (R264). -/
def execEvtPop (s : State) : Host.Outcome State Fault Refusal :=
  .next (cmdEvtPop s)

/-- CLR_COUNTERS (R263). -/
def execClrCounters (s : State) : Host.Outcome State Fault Refusal :=
  .next (cmdClrCounters s)

/-- TX_FLUSH (R265). -/
def execTxFlush (s : State) : Host.Outcome State Fault Refusal :=
  .next (cmdTxFlush s)

/-- RESERVED_9 (R261). -/
def execReserved9 (s : State) : Host.Outcome State Fault Refusal :=
  .next (cmdReserved s)

/-- RESERVED_A (R261). -/
def execReservedA (s : State) : Host.Outcome State Fault Refusal :=
  .next (cmdReserved s)

/-- RESERVED_B (R261). -/
def execReservedB (s : State) : Host.Outcome State Fault Refusal :=
  .next (cmdReserved s)

/-- RESERVED_C (R261). -/
def execReservedC (s : State) : Host.Outcome State Fault Refusal :=
  .next (cmdReserved s)

/-- RESERVED_D (R261). -/
def execReservedD (s : State) : Host.Outcome State Fault Refusal :=
  .next (cmdReserved s)

/-- RESERVED_E (R261). -/
def execReservedE (s : State) : Host.Outcome State Fault Refusal :=
  .next (cmdReserved s)

/-- RESERVED_F (R261). -/
def execReservedF (s : State) : Host.Outcome State Fault Refusal :=
  .next (cmdReserved s)

end Sys2Proof.Machine
end

