-- ==== Sys2Proof/Machine/BusReads.lean ====
section
/-!
DEFINITION. The BUS read rows (44_host_ops.md R269): the register goes out on `bus_rdata` and no
state changes (20_memory.md R72). Rules named without a file are of 10_state.md.
-/

namespace Sys2Proof.Machine

/-- RD ID (R24). -/
def execRdId (s : State) : Host.Outcome State Fault Refusal :=
  .next (busReturn Config.partId s)

/-- RD CTRL (R25). -/
def execRdCtrl (s : State) : Host.Outcome State Fault Refusal :=
  .next (busReturn (readCtrl s) s)

/-- RD STATUS (R27). -/
def execRdStatus (s : State) : Host.Outcome State Fault Refusal :=
  .next (busReturn (statusReg s) s)

/-- RD IRQ_STATUS (R28). -/
def execRdIrqStatus (s : State) : Host.Outcome State Fault Refusal :=
  .next (busReturn (readIrqStatus s) s)

/-- RD IRQ_EN (R29). -/
def execRdIrqEn (s : State) : Host.Outcome State Fault Refusal :=
  .next (busReturn (readIrqEn s) s)

/-- RD CHANNEL (R30). -/
def execRdChannel (s : State) : Host.Outcome State Fault Refusal :=
  .next (busReturn (readChannel s) s)

/-- RD BAUD_COUNT (R31). -/
def execRdBaudCount (s : State) : Host.Outcome State Fault Refusal :=
  .next (busReturn (readBaudCount s) s)

/-- RD BAUD_OVERRIDE (R32). -/
def execRdBaudOverride (s : State) : Host.Outcome State Fault Refusal :=
  .next (busReturn (readBaudOverride s) s)

/-- RD CHOSEN_BAUD (R33). -/
def execRdChosenBaud (s : State) : Host.Outcome State Fault Refusal :=
  .next (busReturn (readChosenBaud s) s)

/-- RD LAST_ERR (R34). -/
def execRdLastErr (s : State) : Host.Outcome State Fault Refusal :=
  .next (busReturn (readLastErr s) s)

/-- RD SEQ_TIMEOUT (R35). -/
def execRdSeqTimeout (s : State) : Host.Outcome State Fault Refusal :=
  .next (busReturn (readSeqTimeout s) s)

/-- RD A_CMD_SEL (R36). -/
def execRdACmdSel (s : State) : Host.Outcome State Fault Refusal :=
  .next (busReturn (readACmdSel s) s)

/-- RD INIT_COUNT (R37). -/
def execRdInitCount (s : State) : Host.Outcome State Fault Refusal :=
  .next (busReturn (readInitCount s) s)

/-- RD CRC_VALUE (41_checksum_crc.md R165). -/
def execRdCrcValue (s : State) : Host.Outcome State Fault Refusal :=
  .next (busReturn (readCrcValue s) s)

/-- RD XOR_VALUE (41_checksum_crc.md R174). -/
def execRdXorValue (s : State) : Host.Outcome State Fault Refusal :=
  .next (busReturn (readXorValue s) s)

/-- RD TX_LEVEL (R43). -/
def execRdTxLevel (s : State) : Host.Outcome State Fault Refusal :=
  .next (busReturn (readTxLevel s) s)

/-- RD CNT_FRAMES (R44). -/
def execRdCntFrames (s : State) : Host.Outcome State Fault Refusal :=
  .next (busReturn s.log.frames s)

/-- RD CNT_CSUM_ERR (R44). -/
def execRdCntCsumErr (s : State) : Host.Outcome State Fault Refusal :=
  .next (busReturn s.log.csumErr s)

/-- RD CNT_FRAME_ERR (R44). -/
def execRdCntFrameErr (s : State) : Host.Outcome State Fault Refusal :=
  .next (busReturn s.log.frameErr s)

/-- RD CNT_PROTO_ERR (R44). -/
def execRdCntProtoErr (s : State) : Host.Outcome State Fault Refusal :=
  .next (busReturn s.log.protoErr s)

/-- RD CNT_EVT_OVF (R44). -/
def execRdCntEvtOvf (s : State) : Host.Outcome State Fault Refusal :=
  .next (busReturn s.log.evtOvf s)

/-- RD CNT_PARTIAL (R44). -/
def execRdCntPartial (s : State) : Host.Outcome State Fault Refusal :=
  .next (busReturn s.log.partialBatch s)

/-- RD CNT_DISCARD (R44). -/
def execRdCntDiscard (s : State) : Host.Outcome State Fault Refusal :=
  .next (busReturn s.log.discard s)

/-- RD LAST_PROTO_CODE (R45). -/
def execRdLastProtoCode (s : State) : Host.Outcome State Fault Refusal :=
  .next (busReturn (readLastProtoCode s) s)

/-- RD EVT_LEVEL (R46). -/
def execRdEvtLevel (s : State) : Host.Outcome State Fault Refusal :=
  .next (busReturn (readEvtLevel s) s)

/-- RD EVT_HEAD (R47). -/
def execRdEvtHead (s : State) : Host.Outcome State Fault Refusal :=
  .next (busReturn (readEvtHead s) s)

/-- RD EVT_AUX (R48). -/
def execRdEvtAux (s : State) : Host.Outcome State Fault Refusal :=
  .next (busReturn (readEvtAux s) s)

/-- RD BAUD_CAND[n] (R32). -/
def execRdBaudCand (n : BitVec 3) (s : State) : Host.Outcome State Fault Refusal :=
  .next (busReturn (readBaudCand n s) s)

/-- RD word w of INIT_SCRIPT[k] (R49). -/
def execRdInitScript (k w : BitVec 3) (s : State) : Host.Outcome State Fault Refusal :=
  .next (busReturn (readInitScript k w s) s)

/-- RD EVT_DATA[w] (R47). -/
def execRdEvtData (w : BitVec 6) (s : State) : Host.Outcome State Fault Refusal :=
  .next (busReturn (readEvtData w s) s)

/-- A read of a write-only register returns 0 (R64). -/
def execRdWoRegister (_r : WoReg) (s : State) : Host.Outcome State Fault Refusal :=
  .next (busReturn 0#32 s)

end Sys2Proof.Machine
end

