-- ==== Sys2Proof/Machine/BusWrites.lean ====
section
/-!
DEFINITION. The BUS write rows (20_memory.md R73): a store into writable fields (44_host_ops.md
R267) or the register's side effect, and the accesses that have no register or no right width.
Rules named without a file are of 44_host_ops.md.
-/

namespace Sys2Proof.Machine

/-- A write of a LOCK register: ignored, with no flag, while STATUS.LOCKED = 1 (10_state.md R64). -/
def unlessLocked (f : State → State) (s : State) : State :=
  if s.sess.seq.locked then s else f s

/-- The states in which a PC-SC session refuses host bytes (R266). -/
def SeqState.inSession : SeqState → Bool
  | .opening | .initTx | .initWait | .initDelay | .connected => true
  | .idle | .failed | .aborting => false

/-- One byte for the host TX FIFO (R266): refused in a PC-SC session, dropped when the FIFO is full,
with TX_OVF either way. -/
def pushHostByte (b : Byte) (s : State) : State :=
  if s.sess.fam = .pcsc ∧ s.sess.seq.inSession then setIrq .txOvf s
  else if s.tx.htx.length = Config.txDepth then setIrq .txOvf s
  else { s with tx := { s.tx with htx := s.tx.htx ++ [b] } }

/-- WR CTRL (R267; fields 10_state.md R25). -/
def execWrCtrl (v : Word) (s : State) : Host.Outcome State Fault Refusal :=
  .next { s with regs := { s.regs with ctrl := ctrlOf v } }

/-- WR CMD (10_state.md R26): the command in v[3:0]; v[31:4] is ignored. -/
def execWrCmd (v : Word) (s : State) : Host.Outcome State Fault Refusal :=
  .next (runCommand (v.extractLsb' 0 4) s)

/-- WR IRQ_STATUS (R268): W1C. -/
def execWrIrqStatus (v : Word) (s : State) : Host.Outcome State Fault Refusal :=
  .next (clearIrq v s)

/-- WR IRQ_EN (R267). -/
def execWrIrqEn (v : Word) (s : State) : Host.Outcome State Fault Refusal :=
  .next { s with regs := { s.regs with irqEn := v.extractLsb' 0 11 } }

/-- WR CHANNEL (R267). -/
def execWrChannel (v : Word) (s : State) : Host.Outcome State Fault Refusal :=
  .next { s with regs := { s.regs with channel := v.extractLsb' 0 8 } }

/-- WR BAUD_COUNT (R267), WARL. -/
def execWrBaudCount (v : Word) (s : State) : Host.Outcome State Fault Refusal :=
  .next { s with regs := { s.regs with baudCount := legalBaudCount v } }

/-- WR BAUD_OVERRIDE (R267). -/
def execWrBaudOverride (v : Word) (s : State) : Host.Outcome State Fault Refusal :=
  .next { s with regs := { s.regs with baudOverride := v } }

/-- WR SEQ_TIMEOUT (R267). -/
def execWrSeqTimeout (v : Word) (s : State) : Host.Outcome State Fault Refusal :=
  .next { s with regs := { s.regs with seqTimeout := v.extractLsb' 0 16 } }

/-- WR A_CMD_SEL (R267). -/
def execWrACmdSel (v : Word) (s : State) : Host.Outcome State Fault Refusal :=
  .next { s with regs := { s.regs with aInv := v.extractLsb' 0 8, aBuf := v.extractLsb' 8 8 } }

/-- WR INIT_COUNT (R267), WARL and LOCK. -/
def execWrInitCount (v : Word) (s : State) : Host.Outcome State Fault Refusal :=
  .next
    (unlessLocked (fun s => { s with regs := { s.regs with initCount := legalInitCount v } }) s)

/-- WR CRC_VALUE (41_checksum_crc.md R165): the engine's seed. -/
def execWrCrcValue (v : Word) (s : State) : Host.Outcome State Fault Refusal :=
  .next { s with eng := { s.eng with crc := v.extractLsb' 0 16 } }

/-- WR CRC_DATA (41_checksum_crc.md R163): one byte through the CRC engine. -/
def execWrCrcData (v : Word) (s : State) : Host.Outcome State Fault Refusal :=
  .next { s with eng := { s.eng with crc := crcStep s.eng.crc (v.extractLsb' 0 8) } }

/-- WR XOR_VALUE (41_checksum_crc.md R174). -/
def execWrXorValue (v : Word) (s : State) : Host.Outcome State Fault Refusal :=
  .next { s with eng := { s.eng with xacc := v.extractLsb' 0 8 } }

/-- WR XOR_DATA (41_checksum_crc.md R172): one byte folded in. -/
def execWrXorData (v : Word) (s : State) : Host.Outcome State Fault Refusal :=
  .next { s with eng := { s.eng with xacc := s.eng.xacc ^^^ v.extractLsb' 0 8 } }

/-- WR TX_DATA (R266). -/
def execWrTxData (v : Word) (s : State) : Host.Outcome State Fault Refusal :=
  .next (pushHostByte (v.extractLsb' 0 8) s)

/-- WR BAUD_CAND[n] (R267). -/
def execWrBaudCand (n : BitVec 3) (v : Word) (s : State) : Host.Outcome State Fault Refusal :=
  .next { s with regs := { s.regs with baudCand := s.regs.baudCand.set n.toNat v n.isLt } }

/-- WR word w of INIT_SCRIPT[k] (10_state.md R49), WARL and LOCK. -/
def execWrInitScript (k w : BitVec 3) (v : Word) (s : State) : Host.Outcome State Fault Refusal :=
  .next (unlessLocked (fun s => { s with regs := { s.regs with
    script := s.regs.script.set k.toNat ((s.regs.script[k.toNat]'k.isLt).setWord w v) k.isLt } }) s)

/-- A write of a read-only register changes nothing (10_state.md R64). -/
def execWrRoRegister (_r : RoReg) (_v : Word) (s : State) : Host.Outcome State Fault Refusal :=
  .next s

/-- An offset R23 does not list (20_memory.md R74): a read returns 0, a write is ignored, and there is
no `bus_err`. -/
def execUnlistedOffset (we : Bool) (_off : Offset) (_v : Word) (s : State) :
    Host.Outcome State Fault Refusal :=
  .next (if we then s else busReturn 0#32 s)

/-- A non-word or misaligned access (20_memory.md R71, 60_exceptions.md R304): `bus_err` = 1,
`bus_rdata` = 0 and no state change. -/
def execBusError (_acc : BusAccess) (s : State) : Host.Outcome State Fault Refusal :=
  .next (raiseBusError s)

end Sys2Proof.Machine
end

