-- ==== Sys2Proof/Machine/PortEvents.lean ====
section
/-!
DEFINITION. The PORT rows (30_encoding.md R105): the steps that do not come from the host.
-/

namespace Sys2Proof.Machine

/-- RX_BYTE (40_assembler.md R130). -/
def execRxByte (b : Byte) (last : Bool) (s : State) : Host.Outcome State Fault Refusal :=
  .next (rxByte b last s)

/-- TX_BEAT (43_sequencer.md R224). -/
def execTxBeat (s : State) : Host.Outcome State Fault Refusal :=
  .next (onTxBeat s)

/-- OPEN_RSP (43_sequencer.md R235). -/
def execOpenRsp (ok : Bool) (err : BitVec 2) (s : State) : Host.Outcome State Fault Refusal :=
  .next (onOpenRsp ok err s)

/-- TICK (43_sequencer.md R236). -/
def execTick (s : State) : Host.Outcome State Fault Refusal :=
  .next (onTick s)

/-- CARD_PRESENT (42_decoders.md R196). -/
def execCardPresent (s : State) : Host.Outcome State Fault Refusal :=
  .next (issueGetUid s)

/-- CARD_REMOVED (42_decoders.md R199): no effect on any state. -/
def execCardRemoved (s : State) : Host.Outcome State Fault Refusal :=
  .next s

/-- XFER_ERR (42_decoders.md R198). -/
def execXferErr (s : State) : Host.Outcome State Fault Refusal :=
  .next (onXferErr s)

/-- RESET (70_reset_and_hazards.md R340): every piece of the block's state at its reset value. The
environment's events still to come, and the count of free values used, are not the block's (log 10,
log 15). -/
def execReset (s : State) : Host.Outcome State Fault Refusal :=
  .next { State.reset with inputs := s.inputs, drawn := s.drawn }

end Sys2Proof.Machine
end

