-- ==== Sys2Proof/Machine/Frames.lean ====
section
/-!
DEFINITION. The FRAME_A and FRAME_B rows: one whole wire frame received, decoded by the row that
30_encoding.md R106 selects (log 5). Rules named without a file are of 42_decoders.md.
-/

namespace Sys2Proof.Machine

/-- A_FRAME_ERROR (42_decoders.md R180): a whole frame of this row received. -/
def execAFrameError (f : List Byte) (s : State) : Host.Outcome State Fault Refusal :=
  .next (receiveFrame .a rowAFrameError f s)

/-- A_STRICT_DROP (R181): a whole frame of this row received. -/
def execAStrictDrop (f : List Byte) (s : State) : Host.Outcome State Fault Refusal :=
  .next (receiveFrame .a rowAStrictDrop f s)

/-- A_INVENTORY (R183, R184): a whole frame of this row received. -/
def execAInventory (f : List Byte) (s : State) : Host.Outcome State Fault Refusal :=
  .next (receiveFrame .a rowAInventory f s)

/-- A_BUFFER (R185): a whole frame of this row received. -/
def execABuffer (f : List Byte) (s : State) : Host.Outcome State Fault Refusal :=
  .next (receiveFrame .a rowABuffer f s)

/-- A_ACK (R186): a whole frame of this row received. -/
def execAAck (f : List Byte) (s : State) : Host.Outcome State Fault Refusal :=
  .next (receiveFrame .a rowAAck f s)

/-- B_CRC_DROP (R190): a whole frame of this row received. -/
def execBCrcDrop (f : List Byte) (s : State) : Host.Outcome State Fault Refusal :=
  .next (receiveFrame .b rowBCrcDrop f s)

/-- B_INVENTORY (R191 to R193): a whole frame of this row received. -/
def execBInventory (f : List Byte) (s : State) : Host.Outcome State Fault Refusal :=
  .next (receiveFrame .b rowBInventory f s)

/-- B_ACK (R194): a whole frame of this row received. -/
def execBAck (f : List Byte) (s : State) : Host.Outcome State Fault Refusal :=
  .next (receiveFrame .b rowBAck f s)

end Sys2Proof.Machine
end

