-- ==== Sys2Proof/Machine/Apdu.lean ====
section
/-!
DEFINITION. The APDU rows: the command the block issues, and one whole response received, decoded
by the row that 30_encoding.md R106 selects (log 5). Rules named without a file are of
42_decoders.md.
-/

namespace Sys2Proof.Machine

/-- PCSC_GET_UID (42_decoders.md R196): the APDU is queued for the transport, `tx_last` on its fifth
byte (log 6). -/
def execPcscGetUid (s : State) : Host.Outcome State Fault Refusal :=
  .next (issueGetUid s)

/-- PCSC_FRAME_ERROR (R197): a response of one byte, or of more than P_PCSC_MAX. -/
def execPcscFrameError (r : List Byte) (s : State) : Host.Outcome State Fault Refusal :=
  .next (receiveResponse rowPcscFrameError r s)

/-- PCSC_NOTAGS (R197): the response 90 00. -/
def execPcscNotags (s : State) : Host.Outcome State Fault Refusal :=
  .next (receiveResponse rowPcscNotags [0x90#8, 0x00#8] s)

/-- PCSC_TAG (R197): a UID and 90 00. -/
def execPcscTag (uid : List Byte) (s : State) : Host.Outcome State Fault Refusal :=
  .next (receiveResponse (rowPcscTag uid) (uid ++ [0x90#8, 0x00#8]) s)

/-- PCSC_PROTO_ERROR (R197): any other status word. -/
def execPcscProtoError (r : List Byte) (s : State) : Host.Outcome State Fault Refusal :=
  .next (receiveResponse (rowPcscProtoError r) r s)

end Sys2Proof.Machine
end

