-- ==== Sys2Proof/Machine/Dispatch.lean ====
section
/-!
DEFINITION. One arm per operation of spec/opcode_table.json, in its order.
-/

namespace Sys2Proof.Machine

-- The meaning of an operation.
def exec (i : Instr) (s : State) : Host.Outcome State Fault Refusal :=
  match i with
  | .nop => Sys2Proof.Machine.execNop s
  | .connect => Sys2Proof.Machine.execConnect s
  | .disconnect => Sys2Proof.Machine.execDisconnect s
  | .flushRx => Sys2Proof.Machine.execFlushRx s
  | .crcInit => Sys2Proof.Machine.execCrcInit s
  | .xorInit => Sys2Proof.Machine.execXorInit s
  | .evtPop => Sys2Proof.Machine.execEvtPop s
  | .clrCounters => Sys2Proof.Machine.execClrCounters s
  | .txFlush => Sys2Proof.Machine.execTxFlush s
  | .reserved9 => Sys2Proof.Machine.execReserved9 s
  | .reservedA => Sys2Proof.Machine.execReservedA s
  | .reservedB => Sys2Proof.Machine.execReservedB s
  | .reservedC => Sys2Proof.Machine.execReservedC s
  | .reservedD => Sys2Proof.Machine.execReservedD s
  | .reservedE => Sys2Proof.Machine.execReservedE s
  | .reservedF => Sys2Proof.Machine.execReservedF s
  | .rdId => Sys2Proof.Machine.execRdId s
  | .rdCtrl => Sys2Proof.Machine.execRdCtrl s
  | .wrCtrl v => Sys2Proof.Machine.execWrCtrl v s
  | .wrCmd v => Sys2Proof.Machine.execWrCmd v s
  | .rdStatus => Sys2Proof.Machine.execRdStatus s
  | .rdIrqStatus => Sys2Proof.Machine.execRdIrqStatus s
  | .wrIrqStatus v => Sys2Proof.Machine.execWrIrqStatus v s
  | .rdIrqEn => Sys2Proof.Machine.execRdIrqEn s
  | .wrIrqEn v => Sys2Proof.Machine.execWrIrqEn v s
  | .rdChannel => Sys2Proof.Machine.execRdChannel s
  | .wrChannel v => Sys2Proof.Machine.execWrChannel v s
  | .rdBaudCount => Sys2Proof.Machine.execRdBaudCount s
  | .wrBaudCount v => Sys2Proof.Machine.execWrBaudCount v s
  | .rdBaudOverride => Sys2Proof.Machine.execRdBaudOverride s
  | .wrBaudOverride v => Sys2Proof.Machine.execWrBaudOverride v s
  | .rdChosenBaud => Sys2Proof.Machine.execRdChosenBaud s
  | .rdLastErr => Sys2Proof.Machine.execRdLastErr s
  | .rdSeqTimeout => Sys2Proof.Machine.execRdSeqTimeout s
  | .wrSeqTimeout v => Sys2Proof.Machine.execWrSeqTimeout v s
  | .rdACmdSel => Sys2Proof.Machine.execRdACmdSel s
  | .wrACmdSel v => Sys2Proof.Machine.execWrACmdSel v s
  | .rdInitCount => Sys2Proof.Machine.execRdInitCount s
  | .wrInitCount v => Sys2Proof.Machine.execWrInitCount v s
  | .rdCrcValue => Sys2Proof.Machine.execRdCrcValue s
  | .wrCrcValue v => Sys2Proof.Machine.execWrCrcValue v s
  | .wrCrcData v => Sys2Proof.Machine.execWrCrcData v s
  | .rdXorValue => Sys2Proof.Machine.execRdXorValue s
  | .wrXorValue v => Sys2Proof.Machine.execWrXorValue v s
  | .wrXorData v => Sys2Proof.Machine.execWrXorData v s
  | .wrTxData v => Sys2Proof.Machine.execWrTxData v s
  | .rdTxLevel => Sys2Proof.Machine.execRdTxLevel s
  | .rdCntFrames => Sys2Proof.Machine.execRdCntFrames s
  | .rdCntCsumErr => Sys2Proof.Machine.execRdCntCsumErr s
  | .rdCntFrameErr => Sys2Proof.Machine.execRdCntFrameErr s
  | .rdCntProtoErr => Sys2Proof.Machine.execRdCntProtoErr s
  | .rdCntEvtOvf => Sys2Proof.Machine.execRdCntEvtOvf s
  | .rdCntPartial => Sys2Proof.Machine.execRdCntPartial s
  | .rdCntDiscard => Sys2Proof.Machine.execRdCntDiscard s
  | .rdLastProtoCode => Sys2Proof.Machine.execRdLastProtoCode s
  | .rdEvtLevel => Sys2Proof.Machine.execRdEvtLevel s
  | .rdEvtHead => Sys2Proof.Machine.execRdEvtHead s
  | .rdEvtAux => Sys2Proof.Machine.execRdEvtAux s
  | .rdBaudCand n => Sys2Proof.Machine.execRdBaudCand n s
  | .wrBaudCand n v => Sys2Proof.Machine.execWrBaudCand n v s
  | .rdInitScript k w => Sys2Proof.Machine.execRdInitScript k w s
  | .wrInitScript k w v => Sys2Proof.Machine.execWrInitScript k w v s
  | .rdEvtData w => Sys2Proof.Machine.execRdEvtData w s
  | .rdWoRegister r => Sys2Proof.Machine.execRdWoRegister r s
  | .wrRoRegister r v => Sys2Proof.Machine.execWrRoRegister r v s
  | .unlistedOffset we off v => Sys2Proof.Machine.execUnlistedOffset we off v s
  | .busError acc => Sys2Proof.Machine.execBusError acc s
  | .rxByte b last => Sys2Proof.Machine.execRxByte b last s
  | .txBeat => Sys2Proof.Machine.execTxBeat s
  | .openRsp ok err => Sys2Proof.Machine.execOpenRsp ok err s
  | .tick => Sys2Proof.Machine.execTick s
  | .cardPresent => Sys2Proof.Machine.execCardPresent s
  | .cardRemoved => Sys2Proof.Machine.execCardRemoved s
  | .xferErr => Sys2Proof.Machine.execXferErr s
  | .reset => Sys2Proof.Machine.execReset s
  | .aFrameError f => Sys2Proof.Machine.execAFrameError f s
  | .aStrictDrop f => Sys2Proof.Machine.execAStrictDrop f s
  | .aInventory f => Sys2Proof.Machine.execAInventory f s
  | .aBuffer f => Sys2Proof.Machine.execABuffer f s
  | .aAck f => Sys2Proof.Machine.execAAck f s
  | .bCrcDrop f => Sys2Proof.Machine.execBCrcDrop f s
  | .bInventory f => Sys2Proof.Machine.execBInventory f s
  | .bAck f => Sys2Proof.Machine.execBAck f s
  | .pcscGetUid => Sys2Proof.Machine.execPcscGetUid s
  | .pcscFrameError r => Sys2Proof.Machine.execPcscFrameError r s
  | .pcscNotags => Sys2Proof.Machine.execPcscNotags s
  | .pcscTag uid => Sys2Proof.Machine.execPcscTag uid s
  | .pcscProtoError r => Sys2Proof.Machine.execPcscProtoError r s

end Sys2Proof.Machine
end

