-- ==== Sys2Proof/Machine/Step.lean ====
section
/-!
DEFINITION. One step: the next event is taken, decoded by the selectors as they are now, and run
(00_scope.md R12, R13). With no event to come the block waits (log 9).
-/

namespace Sys2Proof.Machine

/-- One step of the block. -/
def step (s : State) : Host.Outcome State Fault Refusal :=
  match fetch s with
  | none => .next (beginStep [] s)
  | some (inp, rest) =>
    match decode (selectorsOf s) inp with
    | .error e => .refused (.illFormedInput e)
    | .ok i => exec i (beginStep rest s)

/-- s with a word of spec/opcode_table.json as its very next event (log 1, log 22). -/
def State.withFetchWord (s : State) (nbits w : Nat) : State :=
  { s with inputs := tableInput nbits w :: s.inputs }

end Sys2Proof.Machine
end

