-- ==== Sys2Proof/Machine/HostNotation.lean ====
section
/-!
DEFINITION. The host-program notation of 30_encoding.md R110 to R112 as lists of events, with its
pseudo-operations, and the observation function `hex(id)` of 00_scope.md R17. No step of the block
uses this file: it is how a program of the spec is written as `inputs`.
-/

namespace Sys2Proof.Machine.HostProgram

/-- `WR <REG>, v` at the register's offset (R110). -/
def wr (off : Offset) (v : Word) : List Input := [writeInput off v]

/-- `RD <REG>` (R110). -/
def rd (off : Offset) : List Input := [readInput off]

/-- `CMD <MNEMONIC>` = `WR CMD, <OP>` (R110). -/
def cmd (op : BitVec 4) : List Input := wr 0x008#12 (op.zeroExtend 32)

/-- `RX <bytes>`: one RX_BYTE each, `rx_last` = 0 (R110). -/
def rx (bs : List Byte) : List Input := bs.map fun b => encode (.rxByte b false)

/-- `RXL <bytes>`: the same with `rx_last` = 1 on the final byte (R110). -/
def rxl : List Byte → List Input
  | [] => []
  | [b] => [encode (.rxByte b true)]
  | b :: bs => encode (.rxByte b false) :: rxl bs

/-- `OPEN_RSP ok` (R110). -/
def openRspOk : List Input := [encode (.openRsp true 0#2)]

/-- `OPEN_RSP err=<c>` (R110). -/
def openRspErr (c : BitVec 2) : List Input := [encode (.openRsp false c)]

/-- `TICK <n>` (R110). -/
def ticks (n : Nat) : List Input := List.replicate n (encode .tick)

/-- `TXACK <n>` (R110). -/
def txack (n : Nat) : List Input := List.replicate n (encode .txBeat)

/-- `CARD` (R110). -/
def card : List Input := [encode .cardPresent]

/-- `XFERERR` (R110). -/
def xfererr : List Input := [encode .xferErr]

/-- `CRC16 b0 .. bn-1` (R111). -/
def crc16Of (bs : List Byte) : List Input :=
  cmd 0x4#4 ++ bs.flatMap (fun b => wr 0x03C#12 (b.zeroExtend 32)) ++ rd 0x038#12

/-- `XOR8 b0 .. bn-1` (R111). -/
def xor8Of (bs : List Byte) : List Input :=
  cmd 0x5#4 ++ bs.flatMap (fun b => wr 0x044#12 (b.zeroExtend 32)) ++ rd 0x040#12

/-- `SCRIPT k, <bytes>, addr=<a>, cmd=<c>, delay=<d>` (R111): SPEC, DELAY, then the DATA words the
bytes fill, packed by 20_memory.md R76. -/
def script (k : BitVec 3) (bs : List Byte) (a c : Byte) (d : BitVec 16) : List Input :=
  wr (initScriptOffset k 0#3) (0#8 ++ c ++ a ++ BitVec.ofNat 8 bs.length) ++
    wr (initScriptOffset k 1#3) (d.zeroExtend 32) ++
    (List.range ((bs.length + 3) / 4)).flatMap fun w =>
      wr (initScriptOffset k (BitVec.ofNat 3 (w + 2))) (packedWord bs w)

/-- `POPEVT` for a record of `n` identifier bytes (R111). -/
def popEvt (n : Nat) : List Input :=
  rd 0x074#12 ++ rd 0x078#12 ++
    (List.range ((n + 3) / 4)).flatMap (fun w => rd (evtDataOffset (BitVec.ofNat 6 w))) ++
    cmd 0x6#4

/-- `SEND <bytes>` (R111). -/
def send (bs : List Byte) : List Input := bs.flatMap fun b => wr 0x048#12 (b.zeroExtend 32)

/-- One uppercase hexadecimal digit. -/
def hexDigit (n : BitVec 4) : Char :=
  if n.toNat < 10 then Char.ofNat (48 + n.toNat) else Char.ofNat (55 + n.toNat)

/-- `hex(id)` as its characters (R17): two uppercase digits a byte, in wire order. The block never
computes it. -/
def hexId (id : List Byte) : List Char :=
  id.flatMap fun b => [hexDigit (b.extractLsb' 4 4), hexDigit (b.extractLsb' 0 4)]

end Sys2Proof.Machine.HostProgram
end

