-- ==== Sys2Proof/Safety.lean ====
section
/-!
DEFINITION. What a good state is: the invariant that the rules state of the state between steps,
and the words the statements are written in.
-/

namespace Sys2Proof.Machine

/-! ### The invariant -/

/-- BAUD_COUNT.N and INIT_COUNT.N are at most 8 and every NBYTES is at most 24 (10_state.md R31,
R37, R49). -/
abbrev RegsOk (r : HostRegs) : Prop :=
  r.baudCount ≤ 8#4 ∧ r.initCount ≤ 8#4 ∧ ∀ e ∈ r.script.toList, e.nbytes ≤ 24#5

/-- The pending buffer between steps: for family A empty, or a header and fewer bytes than the frame
needs (40_assembler.md R133); for family B empty, or a length byte of at least 4 and fewer bytes
than the frame needs (10_state.md R56, 40_assembler.md R140); for PC-SC empty. -/
abbrev PendOk (fam : Family) (p : List Byte) : Prop :=
  (fam = .a → p = [] ∨ (byteAt p 0 = 0xA0#8 ∧ p.length < totalA p)) ∧
    (fam = .b → p = [] ∨ (4#8 ≤ byteAt p 0 ∧ p.length < totalB p)) ∧ (fam = .pcsc → p = [])

/-- The receive side: the pending buffer's form, bytes pending only in a live session, a PC-SC
transmit only in a CONNECTED PC-SC session, and the response buffer's bound (10_state.md R56, R57;
40_assembler.md R130, R145). -/
abbrev RxOk (s : State) : Prop :=
  PendOk s.sess.fam s.rx.pend ∧ (s.rx.pend ≠ [] → s.sess.seq.live = true) ∧
    (s.rx.pcBusy = true → s.sess.seq = .connected ∧ s.sess.fam = .pcsc) ∧
    (s.rx.pcBuf ≠ [] → s.rx.pcBusy = true) ∧ s.rx.pcBuf.length ≤ 258 ∧
    (s.rx.pcOvf = true → s.rx.pcBuf.length = 258)

/-- The transmit side: the bounds of the host FIFO and of the internal queue, the queue used only by
an init step being sent and by the PC-SC APDU, and never empty in INIT_TX (10_state.md R58,
43_sequencer.md R223, R224). -/
abbrev TxOk (s : State) : Prop :=
  s.tx.htx.length ≤ 64 ∧ s.tx.txq.length ≤ 24 ∧
    (s.tx.txq ≠ [] → s.sess.seq = .initTx ∨ (s.sess.seq = .connected ∧ s.sess.fam = .pcsc)) ∧
    (s.sess.seq = .initTx → s.tx.txq ≠ [])

/-- The sequencer: a handle is held exactly in the live states (10_state.md R55), the timer runs
exactly in INIT_WAIT and INIT_DELAY (R54), the candidate and step indexes are in range (R52, R53),
and an init step runs only for families A and B. -/
abbrev SeqOk (s : State) : Prop :=
  s.sess.handleOpen = s.sess.seq.live ∧
    (s.sess.timer ≠ 0#17 ↔ s.sess.seq = .initWait ∨ s.sess.seq = .initDelay) ∧
    s.sess.timer ≤ 65536#17 ∧ s.sess.ncand ≤ 8#4 ∧ s.sess.ncand.toNat ≤ s.sess.cand.length ∧
    (s.sess.seq = .idle → s.sess.ci = 0#4 ∧ s.sess.k = 0#4) ∧
    (s.sess.seq = .failed → s.sess.ci = s.sess.ncand ∧ s.sess.k = 0#4) ∧
    (s.sess.seq = .opening ∨ s.sess.seq = .aborting →
      s.sess.ci < s.sess.ncand ∧ s.sess.k = 0#4) ∧
    (s.sess.seq = .initTx ∨ s.sess.seq = .initWait ∨ s.sess.seq = .initDelay →
      s.sess.ci < s.sess.ncand ∧ s.sess.k < s.regs.initCount ∧ s.sess.fam ≠ .pcsc) ∧
    (s.sess.seq = .connected → s.sess.ci < s.sess.ncand ∧ s.sess.k ≤ 8#4)

/-- A record's fields by its kind (30_encoding.md R104): only a TAG has identifier bytes, 1 to 256
of them; only a PROTO_ERR has a code; only family A is ever unverified; PC-SC has no CMD or ADDR. -/
abbrev RecordOk (r : Record) : Prop :=
  (r.kind = .tag → 1 ≤ r.id.length ∧ r.id.length ≤ 256) ∧ (r.kind ≠ .tag → r.id = []) ∧
    (r.kind ≠ .protoErr → r.code = 0#16) ∧ (r.csumBad = true → r.fam = .a) ∧
    (r.fam = .pcsc → r.cmd = 0#8 ∧ r.addr = 0#8)

/-- The event FIFO: at most P_EVT_DEPTH records, each of a legal form (10_state.md R59). -/
abbrev EvtOk (s : State) : Prop :=
  s.evt.length ≤ 16 ∧ ∀ r ∈ s.evt, RecordOk r

/-- The state between steps is one the rules allow. -/
def Inv (s : State) : Prop :=
  RegsOk s.regs ∧ SeqOk s ∧ RxOk s ∧ TxOk s ∧ EvtOk s

/-! ### Words for statements -/

/-- The operation completes and returns the word n on `bus_rdata` with no `bus_err`, and nothing
else of the state changes. -/
def ReadsAs (i : Instr) (n : Nat) (s : State) : Prop :=
  ∃ w : Word,
    exec i s = .next { s with ports := { s.ports with busErr := false, busRdata := some w } } ∧
      w.toNat = n

/-- The operation completes; the register at `off` then reads n, every other word offset of the
window reads as before, and no hidden state changes. -/
def WritesAs (i : Instr) (off : Offset) (n : Nat) (s : State) : Prop :=
  ∃ t : State,
    exec i s = .next t ∧ (regRead off t).toNat = n ∧
      (∀ o : Offset, o.toNat % 4 = 0 → o ≠ off → regRead o t = regRead o s) ∧
      { t with regs := s.regs, eng := s.eng } = s

/-- The states in which a transport handle is held (43_sequencer.md R229). -/
abbrev IsLive (s : State) : Prop :=
  s.sess.seq = .initTx ∨ s.sess.seq = .initWait ∨ s.sess.seq = .initDelay ∨ s.sess.seq = .connected

/-- The states in which INIT_COUNT and INIT_SCRIPT cannot be written (43_sequencer.md R221). -/
abbrev IsLocked (s : State) : Prop :=
  s.sess.seq = .opening ∨ s.sess.seq = .initTx ∨ s.sess.seq = .initWait ∨ s.sess.seq = .initDelay

/-- A CONNECTED session of a family, with no frame begun. -/
abbrev AtBoundary (fam : Family) (s : State) : Prop :=
  s.sess.seq = .connected ∧ s.sess.fam = fam ∧ s.rx.pend = []

/-- A CONNECTED PC-SC session that awaits a response of which nothing has come. -/
abbrev AwaitsResponse (s : State) : Prop :=
  s.sess.seq = .connected ∧ s.sess.fam = .pcsc ∧ s.rx.pcBusy = true ∧ s.rx.pcBuf = [] ∧
    s.rx.pcOvf = false

/-- The form of `asmA_byte` a byte-serial implementation uses (40_assembler.md R133). -/
def asmAByteSerial (b : Byte) (s : State) : State :=
  if s.rx.pend = [] then
    if b = 0xA0#8 then { s with rx := { s.rx with pend := [0xA0#8] } } else countDiscard 1 s
  else
    let p := s.rx.pend ++ [b]
    if 3 ≤ p.length ∧ p.length = (byteAt p 1).toNat + 3 then
      frameDoneA p (countFrame { s with rx := { s.rx with pend := [] } })
    else { s with rx := { s.rx with pend := p } }

/-- The log after a family A frame is counted and its checksum looked at (10_state.md R44,
42_decoders.md R181): CNT_FRAMES, and on a mismatch CNT_CSUM_ERR with IRQ_STATUS bit 4. -/
def logAfterCheckA (f : List Byte) (l : Log) : Log :=
  if csumOk f then { l with frames := l.frames + 1 }
  else
    { l with frames := l.frames + 1, csumErr := l.csumErr + 1, irq := l.irq ||| 0x008#10 }

/-- A record of a family A frame (30_encoding.md R104). -/
def recordA (kind : RecordKind) (f : List Byte) (code : BitVec 16) (id : List Byte) : Record :=
  ⟨kind, .a, !csumOk f, byteAt f 3, byteAt f 2, code, id⟩

/-- A record of a family B frame (30_encoding.md R104). -/
def recordB (kind : RecordKind) (f : List Byte) (code : BitVec 16) (id : List Byte) : Record :=
  ⟨kind, .b, false, byteAt f 2, byteAt f 1, code, id⟩

/-- A record of a PC-SC response: CMD 0 and ADDR 0 (42_decoders.md R197). -/
def recordPcsc (kind : RecordKind) (code : BitVec 16) (id : List Byte) : Record :=
  ⟨kind, .pcsc, false, 0#8, 0#8, code, id⟩

/-- The records of a batch: one TAG for each identifier, or one NOTAGS if there is none
(42_decoders.md R185, R192). -/
def batchRecords (rec : RecordKind → List Byte → Record) (ids : List (List Byte)) : List Record :=
  if ids = [] then [rec .noTags []] else ids.map (rec .tag)

/-- The wire bytes of a list of family B tag records (30_encoding.md R100). -/
def tagRecordBytes (ids : List (List Byte)) : List Byte :=
  ids.flatMap fun id => BitVec.ofNat 8 id.length :: id

/-- A log with one FrameError more (42_decoders.md R203). -/
def Log.plusFrameErr (l : Log) : Log :=
  { l with frameErr := l.frameErr + 1, irq := l.irq ||| 0x010#10 }

/-- A log with one ProtocolError more, of the code (42_decoders.md R201). -/
def Log.plusProtoErr (code : BitVec 16) (l : Log) : Log :=
  { l with protoErr := l.protoErr + 1, protoCode := code, irq := l.irq ||| 0x020#10 }

/-- A log with one batch more cut short (42_decoders.md R185). -/
def Log.plusPartial (l : Log) : Log :=
  { l with partialBatch := l.partialBatch + 1, irq := l.irq ||| 0x200#10 }

/-- A family A frame that completes the init step being waited for: it passed its integrity checks and
carries the step's (ADDR, CMD) (42_decoders.md R202, 43_sequencer.md R237). -/
abbrev AnswersStepA (s : State) (f : List Byte) : Prop :=
  2 ≤ (byteAt f 1).toNat ∧ (csumOk f = true ∨ s.regs.ctrl.strictA = false) ∧
    byteAt f 2 = (scriptAt s s.sess.k).expAddr ∧ byteAt f 3 = (scriptAt s s.sess.k).expCmd

/-- The same of a family B frame (42_decoders.md R202, 43_sequencer.md R237). -/
abbrev AnswersStepB (s : State) (f : List Byte) : Prop :=
  crcOk f = true ∧ byteAt f 1 = (scriptAt s s.sess.k).expAddr ∧
    byteAt f 2 = (scriptAt s s.sess.k).expCmd

/-- The log after a family A frame is counted and decoded, in every state in which it is decoded
(42_decoders.md R180, R181, R183 to R186, R202). -/
def logAfterFrameA (s : State) (f : List Byte) : Log :=
  let l := logAfterCheckA f s.log
  let st := byteAt f 5
  if (byteAt f 1).toNat < 2 then { s.log.plusFrameErr with frames := s.log.frames + 1 }
  else if csumOk f = false ∧ s.regs.ctrl.strictA = true then l
  else if byteAt f 3 = s.regs.aInv then
    if f.length < 7 ∨ (f.length = 7 ∧ st = 0x01#8) then l.plusFrameErr
    else if st = 0x01#8 ∨ st = 0x00#8 then l
    else l.plusProtoErr (st.setWidth 16)
  else if byteAt f 3 = s.regs.aBuf then
    if f.length < 7 then l.plusFrameErr
    else if (f.length - 7) / 12 < st.toNat then l.plusPartial
    else l
  else l

/-- This many tag records, each a length byte and its identifier, lie whole at the start of the bytes
(42_decoders.md R192). -/
def tagRecordsFit : Nat → List Byte → Bool
  | 0, _ => true
  | _ + 1, [] => false
  | n + 1, l :: bs => l.toNat ≤ bs.length && tagRecordsFit n (bs.drop l.toNat)

/-- The log after a family B frame is counted and decoded, in every state in which it is decoded
(42_decoders.md R190 to R194, R202). -/
def logAfterFrameB (s : State) (f : List Byte) : Log :=
  let l := { s.log with frames := s.log.frames + 1 }
  let st := byteAt f 3
  if crcOk f = false then { l with csumErr := l.csumErr + 1, irq := l.irq ||| 0x008#10 }
  else if byteAt f 2 ≠ 0x01#8 then l
  else if f.length < 6 ∨ (st = 0x01#8 ∧ f.length = 6) then l.plusFrameErr
  else if st = 0xFB#8 then l
  else if st ≠ 0x01#8 then l.plusProtoErr (st.setWidth 16)
  else if tagRecordsFit (byteAt f 4).toNat ((f.drop 5).take (f.length - 7)) then l
  else l.plusPartial

/-- Where starting init step k leads (43_sequencer.md R228, R232, R238): to sending its bytes, or, for
an entry with none, to its response wait, its delay, or at once to the next step. The count bounds
the steps that complete at once; from k on there are at most sixteen (log 12). -/
def seqAfterStart (s : State) : Nat → BitVec 4 → SeqState
  | 0, _ => .connected
  | n + 1, k =>
    if (scriptAt s k).nbytes ≠ 0#5 then .initTx
    else if s.sess.waitResp then .initWait
    else if (scriptAt s k).delay ≠ 0#16 then .initDelay
    else if k + 1 = s.regs.initCount then .connected
    else seqAfterStart s n (k + 1)

/-- Where the completion of the current init step leads: to CONNECTED after the last one, else to the
next step (43_sequencer.md R238). -/
def seqAfterStep (s : State) : SeqState :=
  if s.sess.k + 1 = s.regs.initCount then .connected else seqAfterStart s 16 (s.sess.k + 1)

/-- Where the current init step goes once its response has come, or with no response to wait for: to
its post delay, if it has one (43_sequencer.md R232, R237). -/
def seqAfterResponse (s : State) : SeqState :=
  if (scriptAt s s.sess.k).delay ≠ 0#16 then .initDelay else seqAfterStep s

/-- n operations run one after another, by `exec`. -/
def execAll : List Instr → State → Host.Outcome State Fault Refusal
  | [], s => .next s
  | i :: is, s =>
    match exec i s with
    | .next t => execAll is t
    | .fault e => .fault e
    | .refused e => .refused e

/-- Operations run one after another, each as a step of its own: the open requests they pulse, in
order, and the state after the last. -/
def openTrace : List Instr → State → List (Byte × Word) × State
  | [], s => ([], s)
  | i :: is, s =>
    match exec i (beginStep s.inputs s) with
    | .next t => (t.ports.openReq.toList ++ (openTrace is t).1, (openTrace is t).2)
    | .fault _ => ([], s)
    | .refused _ => ([], s)

end Sys2Proof.Machine
end

