-- ==== Sys2Proof/Certificates/Slice0/Obligations.lean ====
section
/-!
DEFINITION. The statements for the provers, in the order of OBLIGATIONS.json: decoding and the step,
register reads, register writes, host commands, port events, whole frames, and rules of the whole
block. Each docstring names the rule it formalises.
-/

section Slice0Obligations

open Sys2Proof Sys2Proof.Machine

/-! ### Decoding and the step -/

/-- The very next item, decoded by the selectors as they are now, is the operation a step runs, with
the pulses of the step before over and the item taken (00_scope.md R12, R13). The queue, the refusal
of an ill-formed item and the wait are the model's (log 1, log 2, log 9). -/
def Obligations.StepRunsTheDecodedInstruction : Prop :=
  (∀ (s : State) (inp : Input) (rest : List Input) (i : Instr),
      s.inputs = inp :: rest → decode (selectorsOf s) inp = .ok i →
        step s = exec i { s with ports := Ports.quiet, inputs := rest }) ∧
    (∀ (s : State) (inp : Input) (rest : List Input) (e : DecodeError),
      s.inputs = inp :: rest → decode (selectorsOf s) inp = .error e →
        step s = .refused (.illFormedInput e)) ∧
    (∀ s : State, s.inputs = [] → step s = .next { s with ports := Ports.quiet })

/-- Words of 30_encoding.md R92, R91 with 10_state.md R23, R105, R93, R97, R101 and R102 decode to
the operations they stand for. The item layouts are the model's (log 2, log 3). -/
def Obligations.WordsDecodeToTheirRows : Prop :=
  ∀ sel : Selectors,
    decode sel ⟨.cmd, [0x01#8, 0x00#8, 0x00#8, 0x00#8]⟩ = .ok .connect ∧
    decode sel ⟨.cmd, [0xF6#8, 0xFF#8, 0xFF#8, 0xFF#8]⟩ = .ok .evtPop ∧
    decode sel ⟨.bus, [0x0C#8, 0x00#8, 0x00#8, 0x00#8, 0x00#8, 0x00#8, 0x00#8]⟩ = .ok .rdStatus ∧
    decode sel ⟨.bus, [0x3C#8, 0x10#8, 0x04#8, 0x01#8, 0x00#8, 0x00#8, 0x00#8]⟩ =
      .ok (.wrCrcData 0x00000104#32) ∧
    decode sel ⟨.bus, [0x24#8, 0x11#8, 0x32#8, 0x00#8, 0x00#8, 0x00#8, 0x00#8]⟩ =
      .ok (.wrInitScript 1#3 1#3 0x00000032#32) ∧
    decode sel ⟨.bus, [0xFC#8, 0x04#8, 0x00#8, 0x00#8, 0x00#8, 0x00#8, 0x00#8]⟩ =
      .ok (.rdEvtData 63#6) ∧
    decode sel ⟨.port, [0x00#8, 0xA0#8, 0x01#8]⟩ = .ok (.rxByte 0xA0#8 true) ∧
    decode sel ⟨.port, [0x02#8, 0x00#8, 0x02#8]⟩ = .ok (.openRsp false 2#2) ∧
    decode ⟨false, 0x89#8, 0x90#8⟩ ⟨.frameA, [0xA0#8, 4#8, 1#8, 0x89#8, 0#8, 0#8, 0x8C#8]⟩ =
      .ok (.aInventory [0xA0#8, 4#8, 1#8, 0x89#8, 0#8, 0#8, 0x8C#8]) ∧
    decode sel ⟨.frameB, [0x05#8, 0x00#8, 0x01#8, 0xFB#8, 0xF2#8, 0x3D#8]⟩ =
      .ok (.bInventory [0x05#8, 0x00#8, 0x01#8, 0xFB#8, 0xF2#8, 0x3D#8]) ∧
    decode sel ⟨.apduCommand, [0xFF#8, 0xCA#8, 0x00#8, 0x00#8, 0x00#8]⟩ = .ok .pcscGetUid ∧
    decode sel ⟨.apduResponse, [0x6A#8, 0x82#8]⟩ = .ok (.pcscProtoError [0x6A#8, 0x82#8])

/-- Decoding the item of a well-formed operation gives it back, with every operand at every value
its encoding admits; for a family A frame, under registers that select its row (30_encoding.md R90
to R106, R112). -/
def Obligations.DecodeOfEncodeGivesItBack : Prop :=
  ∀ (sel : Selectors) (i : Instr),
    i.wellFormed = true → i.selected sel = true → decode sel (encode i) = .ok i

/-- Whatever the decoder accepts is well formed and is the row that 30_encoding.md R106 selects; and
a frame or a response is decoded without losing a byte of it. -/
def Obligations.DecoderAcceptsOnlyWhatTheTablesGive : Prop :=
  ∀ (sel : Selectors) (inp : Input) (i : Instr), decode sel inp = .ok i →
    i.wellFormed = true ∧ i.selected sel = true ∧
      ((inp.fmt = .frameA ∨ inp.fmt = .frameB ∨ inp.fmt = .apduCommand ∨ inp.fmt = .apduResponse) →
        encode i = inp)

/-! ### Register reads -/

/-- The reads of the registers the host sets and of what the session reports: ID, CTRL, IRQ_EN,
CHANNEL, BAUD_COUNT, BAUD_OVERRIDE, CHOSEN_BAUD, LAST_ERR, SEQ_TIMEOUT, A_CMD_SEL, INIT_COUNT,
BAUD_CAND[n] and INIT_SCRIPT[k], each field at its place and reserved fields 0 (10_state.md R24, R25,
R29 to R37, R49; 44_host_ops.md R269), the causes by their codes (60_exceptions.md R300). -/
def Obligations.ReadsOfConfigurationRegisters : Prop :=
  ∀ s : State,
    ReadsAs .rdId 0x43524331 s ∧
    ReadsAs .rdCtrl
      (s.regs.ctrl.family.toNat + 4 * s.regs.ctrl.strictA.toNat + 8 * s.regs.ctrl.baudOvrEn.toNat +
        16 * s.regs.ctrl.initWaitResp.toNat) s ∧
    ReadsAs .rdIrqEn s.regs.irqEn.toNat s ∧
    ReadsAs .rdChannel s.regs.channel.toNat s ∧
    ReadsAs .rdBaudCount s.regs.baudCount.toNat s ∧
    ReadsAs .rdBaudOverride s.regs.baudOverride.toNat s ∧
    ReadsAs .rdChosenBaud s.sess.chosenBaud.toNat s ∧
    ReadsAs .rdLastErr
      ((match s.sess.lastErr.cause with
          | .none => 0
          | .channelBusy => 1
          | .deviceNotFound => 2
          | .permissionDenied => 3
          | .stepTimeout => 4
          | .emptyList => 5) +
        16 * s.sess.lastErr.candIdx.toNat + 256 * s.sess.lastErr.stepIdx.toNat) s ∧
    ReadsAs .rdSeqTimeout s.regs.seqTimeout.toNat s ∧
    ReadsAs .rdACmdSel (s.regs.aInv.toNat + 256 * s.regs.aBuf.toNat) s ∧
    ReadsAs .rdInitCount s.regs.initCount.toNat s ∧
    (∀ n : BitVec 3, ReadsAs (.rdBaudCand n) (s.regs.baudCand[n.toNat]'n.isLt).toNat s) ∧
    (∀ k : BitVec 3,
      let e := s.regs.script[k.toNat]'k.isLt
      ReadsAs (.rdInitScript k 0#3)
          (e.nbytes.toNat + 256 * e.expAddr.toNat + 65536 * e.expCmd.toNat) s ∧
        ReadsAs (.rdInitScript k 1#3) e.delay.toNat s ∧
        ∀ j : Fin 6, ReadsAs (.rdInitScript k (BitVec.ofNat 3 (j + 2))) e.data[j].toNat s)

/-- The reads of the engines, the levels, the counters and LAST_PROTO_CODE (10_state.md R38, R40, R43
to R46; 41_checksum_crc.md R165, R174). -/
def Obligations.ReadsOfEnginesLevelsAndCounters : Prop :=
  ∀ s : State,
    ReadsAs .rdCrcValue s.eng.crc.toNat s ∧
    ReadsAs .rdXorValue s.eng.xacc.toNat s ∧
    ReadsAs .rdTxLevel (s.tx.htx.length % 65536) s ∧
    ReadsAs .rdCntFrames s.log.frames.toNat s ∧
    ReadsAs .rdCntCsumErr s.log.csumErr.toNat s ∧
    ReadsAs .rdCntFrameErr s.log.frameErr.toNat s ∧
    ReadsAs .rdCntProtoErr s.log.protoErr.toNat s ∧
    ReadsAs .rdCntEvtOvf s.log.evtOvf.toNat s ∧
    ReadsAs .rdCntPartial s.log.partialBatch.toNat s ∧
    ReadsAs .rdCntDiscard s.log.discard.toNat s ∧
    ReadsAs .rdLastProtoCode s.log.protoCode.toNat s ∧
    ReadsAs .rdEvtLevel (s.evt.length % 65536) s

/-- The read of STATUS, every field at its place, the sequencer state and the family by their codes,
which CTRL.FAMILY uses too; and of IRQ_STATUS: the sticky bits [10:1], and bit 0 exactly when the
event FIFO holds a record (10_state.md R25, R27, R28, R50; 30_encoding.md R103; 43_sequencer.md
R221). -/
def Obligations.ReadsOfTheStatusRegisters : Prop :=
  (familyCode .a = 0#2 ∧ familyCode .b = 1#2 ∧ familyCode .pcsc = 2#2) ∧
  ∀ s : State,
    ReadsAs .rdStatus
        ((match s.sess.seq with
            | .idle => 0
            | .opening => 1
            | .initTx => 2
            | .initWait => 3
            | .initDelay => 4
            | .connected => 5
            | .failed => 6
            | .aborting => 7) +
          8 * (if s.sess.seq = .connected then 1 else 0) +
          16 * (match s.sess.fam with | .a => 0 | .b => 1 | .pcsc => 2) +
          64 * s.sess.ci.toNat + 1024 * s.sess.k.toNat +
          16384 * s.rx.pcBusy.toNat + 32768 * (if IsLocked s then 1 else 0) +
          65536 *
            ((if s.sess.fam = .pcsc then s.rx.pcBuf.length else s.rx.pend.length) % 512)) s ∧
      ReadsAs .rdIrqStatus (2 * s.log.irq.toNat + (if s.evt = [] then 0 else 1)) s

/-- The reads of the event FIFO's head: 0 on an empty FIFO, else the head record's fields, its kind and
its family by their codes, with identifier byte 4w+j at bits [8j+7:8j] of EVT_DATA[w] and 0 past its
end (10_state.md R47, R48; 30_encoding.md R103, R104). -/
def Obligations.ReadsOfTheHeadRecord : Prop :=
  ∀ s : State,
    (s.evt = [] →
      ReadsAs .rdEvtHead 0 s ∧ ReadsAs .rdEvtAux 0 s ∧ ∀ w : BitVec 6, ReadsAs (.rdEvtData w) 0 s) ∧
    (∀ (r : Record) (rest : List Record), s.evt = r :: rest →
      ReadsAs .rdEvtHead
          ((match r.kind with | .tag => 1 | .noTags => 2 | .ack => 3 | .protoErr => 4) +
            16 * (match r.fam with | .a => 0 | .b => 1 | .pcsc => 2) +
            64 * r.csumBad.toNat + 256 * r.cmd.toNat + 65536 * (r.id.length % 512)) s ∧
        ReadsAs .rdEvtAux (r.code.toNat + 65536 * r.addr.toNat) s ∧
        ∀ w : BitVec 6,
          let b := fun j => (r.id.getD (4 * w.toNat + j) 0#8).toNat
          ReadsAs (.rdEvtData w) (b 0 + 256 * b 1 + 65536 * b 2 + 16777216 * b 3) s)

/-- A read of a write-only register returns 0 and a write of a read-only one changes nothing
(10_state.md R64). -/
def Obligations.AccessesAgainstTheAccessCode : Prop :=
  ∀ s : State,
    (∀ r : WoReg, ReadsAs (.rdWoRegister r) 0 s) ∧
      ∀ (r : RoReg) (v : Word), exec (.wrRoRegister r v) s = .next s

/-- Reading any offset R23 does not list returns 0 and writing it is ignored; neither asserts
`bus_err` (20_memory.md R74). How an access stands in the queue is the model's (log 1, log 2). -/
def Obligations.UnlistedOffsetsReadZeroAndIgnoreWrites : Prop :=
  ∀ (s : State) (rest : List Input) (off : Offset) (v : Word),
    off.toNat % 4 = 0 →
    (off.toNat = 0x07C ∨ (0x0A0 ≤ off.toNat ∧ off.toNat ≤ 0x0FC) ∨
      (0x200 ≤ off.toNat ∧ off.toNat ≤ 0x3FC) ∨ (0x500 ≤ off.toNat ∧ off.toNat ≤ 0xFFC)) →
    (step { s with inputs := readInput off :: rest } =
        .next { s with
          inputs := rest, ports := { Ports.quiet with busErr := false, busRdata := some 0#32 } } ∧
      step { s with inputs := writeInput off v :: rest } =
        .next { s with inputs := rest, ports := Ports.quiet } ∧
      ReadsAs (.unlistedOffset false off v) 0 s ∧ exec (.unlistedOffset true off v) s = .next s)

/-- An access that is not of a word, or not at a multiple of 4, completes with `bus_err` = 1 and
`bus_rdata` = 0, and changes no state (20_memory.md R71). How an access stands in the queue, and the
code of a word, are the model's (log 1, log 2, log 3). -/
def Obligations.RefusedAccessesChangeNoState : Prop :=
  ∀ (s : State) (rest : List Input) (acc : BusAccess),
    (acc.size ≠ Config.busSizeWord ∨ acc.addr.toNat % 4 ≠ 0) →
    (step { s with inputs := ⟨.bus, busItem acc⟩ :: rest } =
        .next { s with
          inputs := rest, ports := { Ports.quiet with busErr := true, busRdata := some 0#32 } } ∧
      exec (.busError acc) s =
        .next { s with ports := { s.ports with busErr := true, busRdata := some 0#32 } })

/-! ### Register writes -/

/-- A write of a read-write register stores its fields, reserved bits dropped; every other register of
the window reads as before, and nothing else changes (44_host_ops.md R267; 10_state.md R25, R29, R30,
R32, R35, R36, R38, R40). -/
def Obligations.WritesOfReadWriteRegisters : Prop :=
  ∀ (s : State) (v : Word),
    WritesAs (.wrCtrl v) 0x004#12 (v.toNat % 32) s ∧
    WritesAs (.wrIrqEn v) 0x014#12 (v.toNat % 2048) s ∧
    WritesAs (.wrChannel v) 0x018#12 (v.toNat % 256) s ∧
    WritesAs (.wrBaudOverride v) 0x020#12 v.toNat s ∧
    WritesAs (.wrSeqTimeout v) 0x02C#12 (v.toNat % 65536) s ∧
    WritesAs (.wrACmdSel v) 0x030#12 (v.toNat % 65536) s ∧
    WritesAs (.wrCrcValue v) 0x038#12 (v.toNat % 65536) s ∧
    WritesAs (.wrXorValue v) 0x040#12 (v.toNat % 256) s ∧
    ∀ n : BitVec 3, WritesAs (.wrBaudCand n v) (BitVec.ofNat 12 (0x080 + 4 * n.toNat)) v.toNat s

/-- A write of a WARL field stores a legal value, and a write of a LOCK register while
STATUS.LOCKED = 1 changes nothing (10_state.md R31, R37, R49, R64; 44_host_ops.md R267). -/
def Obligations.WritesOfLegalisedAndLockedRegisters : Prop :=
  ∀ (s : State) (v : Word),
    WritesAs (.wrBaudCount v) 0x01C#12 (min (v.toNat % 16) 8) s ∧
    (IsLocked s →
      exec (.wrInitCount v) s = .next s ∧ ∀ k w : BitVec 3, exec (.wrInitScript k w v) s = .next s) ∧
    (¬ IsLocked s →
      WritesAs (.wrInitCount v) 0x034#12 (min (v.toNat % 16) 8) s ∧
      ∀ k w : BitVec 3,
        WritesAs (.wrInitScript k w v) (BitVec.ofNat 12 (0x100 + 0x20 * k.toNat + 4 * w.toNat))
          (if w = 0#3 then min (v.toNat % 32) 24 + 256 * (v.toNat / 256 % 65536)
            else if w = 1#3 then v.toNat % 65536
            else v.toNat) s)

/-- A write of IRQ_STATUS clears each of bits [10:1] written with a 1 and leaves every other bit, and
nothing else changes (10_state.md R65). -/
def Obligations.IrqStatusWriteClearsTheOnesWritten : Prop :=
  ∀ (s : State) (v : Word), ∃ t : State,
    exec (.wrIrqStatus v) s = .next t ∧
      (∀ i : Nat,
        (regRead 0x010#12 t).getLsbD i =
          ((regRead 0x010#12 s).getLsbD i && !(decide (1 ≤ i ∧ i ≤ 10) && v.getLsbD i))) ∧
      { t with log := { t.log with irq := s.log.irq } } = s

/-- `crc_step` is eight right shifts, 0x8408 folded in whenever a 1 falls out, and `crc16` runs it from
0xFFFF. Each CRC_DATA write runs its low byte through the CRC engine and changes nothing else, so
writes one after another run the bytes in order (41_checksum_crc.md R163, R161; 20_memory.md R73). -/
def Obligations.CrcDataWritesRunTheEngine : Prop :=
  (∀ (c : BitVec 16) (b : Byte),
      crcStep c b =
        (List.range 8).foldl
          (fun x _ => if x.getLsbD 0 then (x >>> 1) ^^^ 0x8408#16 else x >>> 1)
          (c ^^^ b.setWidth 16)) ∧
    (∀ bs : List Byte, crc16 bs = bs.foldl crcStep 0xFFFF#16) ∧
    (∀ (s : State) (v : Word),
      exec (.wrCrcData v) s =
        .next { s with eng := { s.eng with crc := crcStep s.eng.crc (v.setWidth 8) } }) ∧
    ∀ (s : State) (seen : List Byte) (ws : List Word), s.eng.crc = crc16 seen →
      execAll (ws.map .wrCrcData) s =
        .next { s with
          eng := { s.eng with crc := crc16 (seen ++ ws.map fun v => v.setWidth 8) } }

/-- `xor8` is the exclusive OR of its bytes. Each XOR_DATA write folds its low byte in and changes
nothing else; the same byte twice restores the value (41_checksum_crc.md R172, R170). -/
def Obligations.XorDataWritesFoldBytesIn : Prop :=
  (∀ bs : List Byte, xor8 bs = bs.foldl (fun x b => x ^^^ b) 0#8) ∧
    (∀ (s : State) (v : Word),
      exec (.wrXorData v) s =
        .next { s with eng := { s.eng with xacc := s.eng.xacc ^^^ v.setWidth 8 } }) ∧
    (∀ (s : State) (v : Word), execAll [.wrXorData v, .wrXorData v] s = .next s) ∧
    ∀ (s : State) (seen : List Byte) (ws : List Word), s.eng.xacc = xor8 seen →
      execAll (ws.map .wrXorData) s =
        .next { s with
          eng := { s.eng with xacc := xor8 (seen ++ ws.map fun v => v.setWidth 8) } }

/-- TX_DATA queues one byte for the reader; in a PC-SC session, or with 64 bytes queued, the byte is
dropped with TX_OVF (44_host_ops.md R266). -/
def Obligations.TxDataWriteQueuesOrOverflows : Prop :=
  ∀ (s : State) (v : Word),
    exec (.wrTxData v) s =
      .next
        (if (s.sess.fam = .pcsc ∧ (s.sess.seq = .opening ∨ IsLive s)) ∨ s.tx.htx.length = 64 then
          { s with log := { s.log with irq := s.log.irq ||| 0x080#10 } }
        else { s with tx := { s.tx with htx := s.tx.htx ++ [v.setWidth 8] } })

/-- A write of CMD runs the host command in v[3:0] as one step, whatever v[31:4] is, and a read of CMD
returns 0 (10_state.md R26). -/
def Obligations.CmdWriteRunsTheCommand : Prop :=
  ∀ (s : State) (v : Word),
    ∃ t : State,
      exec (.wrCmd v) s = .next t ∧
        exec
          (match v.toNat % 16 with
            | 0 => .nop
            | 1 => .connect
            | 2 => .disconnect
            | 3 => .flushRx
            | 4 => .crcInit
            | 5 => .xorInit
            | 6 => .evtPop
            | 7 => .clrCounters
            | 8 => .txFlush
            | 9 => .reserved9
            | 10 => .reservedA
            | 11 => .reservedB
            | 12 => .reservedC
            | 13 => .reservedD
            | 14 => .reservedE
            | _ => .reservedF) s = .next t ∧
        ReadsAs (.rdWoRegister .cmd) 0 s

/-! ### Host commands -/

/-- NOP, FLUSH_RX, CRC_INIT, XOR_INIT, EVT_POP, CLR_COUNTERS and TX_FLUSH, each with all it changes
(44_host_ops.md R260, R262 to R265; 41_checksum_crc.md R164, R173). -/
def Obligations.ResultsOfThePlainCommands : Prop :=
  ∀ s : State,
    exec .nop s = .next s ∧
    exec .flushRx s =
      .next { s with rx := { s.rx with pend := [], pcBuf := [], pcOvf := false } } ∧
    exec .crcInit s = .next { s with eng := { s.eng with crc := 0xFFFF#16 } } ∧
    exec .xorInit s = .next { s with eng := { s.eng with xacc := 0x00#8 } } ∧
    exec .evtPop s = .next { s with evt := s.evt.drop 1 } ∧
    exec .clrCounters s = .next { s with log := ⟨s.log.irq, 0, 0, 0, 0, 0, 0, 0, 0⟩ } ∧
    exec .txFlush s = .next { s with tx := { s.tx with htx := [] } }

/-- Every reserved opcode sets BAD_CMD and does nothing else (44_host_ops.md R261). -/
def Obligations.ReservedCommandsSetBadCmd : Prop :=
  ∀ s : State, ∀ i ∈ [Instr.reserved9, .reservedA, .reservedB, .reservedC, .reservedD, .reservedE,
      .reservedF],
    exec i s = .next { s with log := { s.log with irq := s.log.irq ||| 0x040#10 } }

/-- A CONNECT with CTRL.FAMILY = 3, or in OPENING or ABORTING, sets BAD_CMD and changes nothing else
(43_sequencer.md R226). -/
def Obligations.RefusedConnectSetsBadCmd : Prop :=
  ∀ s : State,
    (s.regs.ctrl.family = 3#2 ∨ s.sess.seq = .opening ∨ s.sess.seq = .aborting) →
      exec .connect s = .next { s with log := { s.log with irq := s.log.irq ||| 0x040#10 } }

/-- A CONNECT that is not refused: what it latches and clears, the close of a live session's handle,
and the open request of the first candidate, or FAILED with EMPTY_LIST when there is none
(43_sequencer.md R227, R229, R230). -/
def Obligations.ConnectLatchesAndOpensTheFirstCandidate : Prop :=
  ∀ (s : State) (fam : Family),
    s.regs.ctrl.family = familyCode fam → s.sess.seq ≠ .opening → s.sess.seq ≠ .aborting →
    let list := if fam = .pcsc then [0#32]
      else if s.regs.ctrl.baudOvrEn then [s.regs.baudOverride] else s.regs.baudCand.toList
    let count : BitVec 4 :=
      if fam = .pcsc ∨ s.regs.ctrl.baudOvrEn = true then 1#4 else s.regs.baudCount
    let closed := decide (IsLive s) && s.sess.handleOpen
    exec .connect s =
      .next { s with
        rx := ⟨[], [], false, false⟩
        tx := ⟨[], []⟩
        sess :=
          { seq := if count = 0#4 then .failed else .opening
            fam := fam
            chan := s.regs.channel
            waitResp := s.regs.ctrl.initWaitResp
            cand := list
            ncand := count
            ci := 0#4
            k := 0#4
            timer := 0#17
            handleOpen := s.sess.handleOpen && !closed
            chosenBaud := 0#32
            lastErr := ⟨if count = 0#4 then .emptyList else .none, 0#4, 0#4⟩ }
        log :=
          if count = 0#4 then { s.log with irq := s.log.irq ||| 0x002#10 } else s.log
        ports := { s.ports with
          closeReq := s.ports.closeReq || closed
          openReq :=
            if count = 0#4 then s.ports.openReq else some (s.regs.channel, list.headD 0#32) } }

/-- DISCONNECT in each state (43_sequencer.md R230, R231): the buffers, queues and timer of a running
session are dropped and its handle is closed; an open in flight is awaited in ABORTING; FAILED
returns to IDLE with the host FIFO emptied; IDLE and ABORTING change nothing. -/
def Obligations.DisconnectEndsTheSession : Prop :=
  ∀ s : State,
    exec .disconnect s =
      .next
        (if s.sess.seq = .idle ∨ s.sess.seq = .aborting then s
        else if s.sess.seq = .failed then
          { s with
            tx := { s.tx with htx := [] }
            sess := { s.sess with ci := 0#4, k := 0#4, seq := .idle } }
        else
          { s with
            rx := ⟨[], [], false, false⟩
            tx := ⟨[], []⟩
            sess := { s.sess with
              timer := 0#17
              handleOpen := false
              seq := if s.sess.seq = .opening then .aborting else .idle
              ci := if s.sess.seq = .opening then s.sess.ci else 0#4
              k := if s.sess.seq = .opening then s.sess.k else 0#4 }
            ports := { s.ports with closeReq := s.ports.closeReq || s.sess.handleOpen } })

/-- A second DISCONNECT in a row finds IDLE or ABORTING, changes nothing and emits nothing
(43_sequencer.md R240). -/
def Obligations.SecondDisconnectDoesNothing : Prop :=
  ∀ s : State, ∃ t : State,
    exec .disconnect s = .next t ∧ (t.sess.seq = .idle ∨ t.sess.seq = .aborting) ∧
      exec .disconnect (beginStep t.inputs t) = .next { t with ports := Ports.quiet }

/-! ### Received bytes -/

/-- A byte that no session takes is counted in CNT_DISCARD and changes nothing else: no live session,
or a PC-SC session that awaits no response (40_assembler.md R130, R146). -/
def Obligations.BytesNoSessionTakesAreDiscarded : Prop :=
  ∀ (s : State) (b : Byte) (last : Bool),
    (¬ IsLive s ∨ (s.sess.fam = .pcsc ∧ (s.sess.seq ≠ .connected ∨ s.rx.pcBusy = false))) →
      exec (.rxByte b last) s =
        .next { s with log := { s.log with discard := s.log.discard + 1 } }

/-- On a pending buffer of R133's form, a family A byte has the effect of R133's byte-serial form,
`last` is ignored, and the buffer keeps that form (40_assembler.md R130 to R133). -/
def Obligations.FamilyAByteHasTheByteSerialForm : Prop :=
  ∀ (s : State) (b : Byte) (last : Bool),
    IsLive s → s.sess.fam = .a → PendOk .a s.rx.pend →
      exec (.rxByte b last) s = .next (asmAByteSerial b s) ∧
        PendOk .a (asmAByteSerial b s).rx.pend

/-- Feeding a byte stream to the family A assembler of R131 in any chunks leaves the same state as
receiving its bytes one by one (40_assembler.md R136, 20_memory.md R89). -/
def Obligations.FamilyAAssemblyIsChunkInvariant : Prop :=
  ∀ (s : State) (chunks : List (List Byte)),
    IsLive s → s.sess.fam = .a → PendOk .a s.rx.pend →
      execAll (chunks.flatten.map fun b => .rxByte b false) s =
        .next (chunks.foldl (fun t c => asmAAppend c t) s)

/-- A family B byte: a length byte below 4 is rejected with FRAME_ERR, one of 4 or more starts a
frame, a byte that does not complete the frame is appended, and the byte that completes it counts it
and hands it to the decoder (40_assembler.md R140). -/
def Obligations.FamilyBByteByByte : Prop :=
  ∀ (s : State) (b : Byte) (last : Bool), IsLive s → s.sess.fam = .b →
    (s.rx.pend = [] → b.toNat < 4 →
      exec (.rxByte b last) s = .next { s with log := s.log.plusFrameErr }) ∧
    (s.rx.pend = [] → 4 ≤ b.toNat →
      exec (.rxByte b last) s = .next { s with rx := { s.rx with pend := [b] } }) ∧
    (∀ (n : Byte) (p : List Byte), s.rx.pend = n :: p →
      exec (.rxByte b last) s =
        .next
          (if p.length + 1 = n.toNat then
            frameDoneB (n :: p ++ [b])
              { s with
                rx := { s.rx with pend := [] }
                log := { s.log with frames := s.log.frames + 1 } }
          else { s with rx := { s.rx with pend := n :: p ++ [b] } }))

/-- A PC-SC byte that is not the last of its response is kept, or lost with `S.pc_ovf` set when 258
bytes are held (40_assembler.md R145). -/
def Obligations.PcscByteIsCollectedOrLost : Prop :=
  ∀ (s : State) (b : Byte), s.sess.seq = .connected → s.sess.fam = .pcsc → s.rx.pcBusy = true →
    (s.rx.pcBuf.length < 258 →
      exec (.rxByte b false) s = .next { s with rx := { s.rx with pcBuf := s.rx.pcBuf ++ [b] } }) ∧
    (258 ≤ s.rx.pcBuf.length →
      exec (.rxByte b false) s = .next { s with rx := { s.rx with pcOvf := true } })

/-! ### The transmitter, the open and the tick -/

/-- A tx beat takes the head of the internal queue, or else, in CONNECTED, the head of the host FIFO
with `tx_last` = 0; taking an init step's last byte finishes the step's transmission (43_sequencer.md
R224, R232; 20_memory.md R83). `tx_valid`, `tx_data` and `tx_last` show that byte, or that there is
none; with nothing offered nothing happens (log 7). -/
def Obligations.TxBeatTakesTheByteOffered : Prop :=
  ∀ s : State,
    (∀ (e : Byte × Bool) (rest : List (Byte × Bool)), s.tx.txq = e :: rest →
      let t := { s with tx := { s.tx with txq := rest }, ports := { s.ports with txBeat := some e } }
      txOffer s = some e ∧ txValid s = true ∧ exec .txBeat s =
        .next
          (if rest ≠ [] ∨ s.sess.seq ≠ .initTx then t
          else if s.sess.waitResp then
            { t with sess := { t.sess with
                seq := .initWait, timer := BitVec.ofNat 17 (s.regs.seqTimeout.toNat + 1) } }
          else if (scriptAt s s.sess.k).delay = 0#16 then advance t
          else
            { t with sess := { t.sess with
                seq := .initDelay
                timer := BitVec.ofNat 17 ((scriptAt s s.sess.k).delay.toNat + 1) } })) ∧
    (∀ (b : Byte) (rest : List Byte), s.tx.txq = [] → s.tx.htx = b :: rest →
      txOffer s = (if s.sess.seq = .connected then some (b, false) else none) ∧
        txValid s = decide (s.sess.seq = .connected) ∧ exec .txBeat s =
        .next
          (if s.sess.seq = .connected then
            { s with
              tx := { s.tx with htx := rest }, ports := { s.ports with txBeat := some (b, false) } }
          else s)) ∧
    (s.tx.txq = [] → s.tx.htx = [] →
      txOffer s = none ∧ txValid s = false ∧ exec .txBeat s = .next s)

/-- An answer to an open that failed: the cause and the candidate go to LAST_ERR and the next candidate
is opened, or the attempt fails for good (43_sequencer.md R233, R235; 60_exceptions.md R300). -/
def Obligations.FailedOpenTriesTheNextCandidate : Prop :=
  ∀ (s : State) (err : BitVec 2), s.sess.seq = .opening →
    let done := decide (s.sess.ci + 1 = s.sess.ncand)
    exec (.openRsp false err) s =
      .next { s with
        rx := { s.rx with pend := [] }
        tx := { s.tx with txq := [] }
        sess := { s.sess with
          lastErr :=
            ⟨match err.toNat with
              | 2 => .deviceNotFound
              | 3 => .permissionDenied
              | _ => .channelBusy, s.sess.ci, 0#4⟩
          ci := s.sess.ci + 1
          k := 0#4
          timer := 0#17
          seq := if done then .failed else .opening }
        log := if done then { s.log with irq := s.log.irq ||| 0x002#10 } else s.log
        ports := { s.ports with
          openReq :=
            if done then s.ports.openReq
            else some (s.sess.chan, s.sess.cand.getD (s.sess.ci + 1).toNat 0#32) } }

/-- An answer to an open that succeeded, a PC-SC session or an empty script: CONNECTED at once, with the
rate in CHOSEN_BAUD (43_sequencer.md R234, R235). Otherwise init step 0 starts: its bytes are queued,
`last` on the final one, each from its lane of DATA (R228; 20_memory.md R76). -/
def Obligations.SuccessfulOpenConnectsOrStartsTheScript : Prop :=
  ∀ (s : State) (err : BitVec 2), s.sess.seq = .opening →
    ((s.sess.fam = .pcsc ∨ s.regs.initCount = 0#4) →
      exec (.openRsp true err) s =
        .next { s with
          sess := { s.sess with
            handleOpen := true
            seq := .connected
            timer := 0#17
            chosenBaud :=
              if s.sess.fam = .pcsc then 0#32 else s.sess.cand.getD s.sess.ci.toNat 0#32 }
          log := { s.log with irq := s.log.irq ||| 0x001#10 } }) ∧
    (s.sess.fam ≠ .pcsc → s.regs.initCount ≠ 0#4 →
      exec (.openRsp true err) s =
        .next (startStep { s with sess := { s.sess with handleOpen := true, k := 0#4 } })) ∧
    (s.sess.fam ≠ .pcsc → s.regs.initCount ≠ 0#4 → s.tx.txq = [] → s.regs.script[0].nbytes ≤ 24#5 →
      s.regs.script[0].nbytes ≠ 0#5 →
      ∃ t : State,
        exec (.openRsp true err) s = .next t ∧
          { t with tx := { t.tx with txq := [] } } =
            { s with sess := { s.sess with handleOpen := true, k := 0#4, seq := .initTx } } ∧
          t.tx.txq.length = s.regs.script[0].nbytes.toNat ∧
          ∀ j : Fin 24, j.val < s.regs.script[0].nbytes.toNat →
            t.tx.txq[j.val]? =
              some ((s.regs.script[0].data[j.val / 4]'(by omega)).extractLsb' (8 * (j.val % 4)) 8,
                decide (j.val + 1 = s.regs.script[0].nbytes.toNat)))

/-- An answer in ABORTING ends the session and closes what the aborted open gave; one in any other state
but OPENING is ignored (43_sequencer.md R235). -/
def Obligations.OpenAnswersOutsideOpening : Prop :=
  ∀ (s : State) (ok : Bool) (err : BitVec 2),
    (s.sess.seq = .aborting →
      exec (.openRsp ok err) s =
        .next { s with
          sess := { s.sess with ci := 0#4, k := 0#4, seq := .idle }
          ports := { s.ports with closeReq := s.ports.closeReq || ok } }) ∧
    (s.sess.seq ≠ .aborting → s.sess.seq ≠ .opening → exec (.openRsp ok err) s = .next s)

/-- A tick outside INIT_WAIT and INIT_DELAY does nothing; inside, it counts the timer down, and on its
last count a response wait closes the transport and fails the candidate with STEP_TIMEOUT and the
step, and a delay completes the step (43_sequencer.md R233, R236, R238). -/
def Obligations.TickCountsTheWaitDown : Prop :=
  ∀ s : State,
    let t := { s with sess := { s.sess with timer := s.sess.timer - 1 } }
    let done := decide (s.sess.ci + 1 = s.sess.ncand)
    exec .tick s =
      .next
        (if (s.sess.seq ≠ .initWait ∧ s.sess.seq ≠ .initDelay) ∨ s.sess.timer = 0#17 then s
        else if s.sess.timer ≠ 1#17 then t
        else if s.sess.seq = .initDelay then advance t
        else
          { s with
            rx := { s.rx with pend := [] }
            tx := { s.tx with txq := [] }
            sess := { s.sess with
              handleOpen := false
              lastErr := ⟨.stepTimeout, s.sess.ci, s.sess.k⟩
              ci := s.sess.ci + 1
              k := 0#4
              timer := 0#17
              seq := if done then .failed else .opening }
            log := if done then { s.log with irq := s.log.irq ||| 0x002#10 } else s.log
            ports := { s.ports with
              closeReq := true
              openReq :=
                if done then s.ports.openReq
                else some (s.sess.chan, s.sess.cand.getD (s.sess.ci + 1).toNat 0#32) } })

/-- In a wait with T + 1 ticks set, the first n ≤ T ticks only count: the wait is never shortened
(43_sequencer.md R232, 70_reset_and_hazards.md R359). -/
def Obligations.WaitsAreNeverShortened : Prop :=
  ∀ (s : State) (n : Nat), (s.sess.seq = .initWait ∨ s.sess.seq = .initDelay) →
    n < s.sess.timer.toNat →
      execAll (List.replicate n .tick) s =
        .next { s with sess := { s.sess with timer := s.sess.timer - BitVec.ofNat 17 n } }

/-- A step's completion, its start and its transmission's end are the rules' mutual recursion, whatever
the script holds: the model's bound on steps that complete at once (log 12) cuts nothing off. A
step's bytes are queued by `txq_push`, which appends all that fits in 24 pairs; the step is the
script's entry k, and on an empty queue its bytes are those of its DATA lanes, `last` on the final
one. A matched response stops the timer and enters the delay, and the last step's completion connects
with the candidate's rate (43_sequencer.md R223, R228, R232, R234, R237, R238; 10_state.md R49, R58;
20_memory.md R76). -/
def Obligations.StepCompletionFollowsTheRules : Prop :=
  ∀ s : State,
    (advance s =
      let t := { s with sess := { s.sess with timer := 0#17, k := s.sess.k + 1 } }
      if t.sess.k = s.regs.initCount then enterConnected t else startStep t) ∧
    (startStep s =
      let e := scriptAt s s.sess.k
      let t := txqPush e.bytes true { s with sess := { s.sess with seq := .initTx } }
      if e.nbytes = 0#5 then finishTx t else t) ∧
    (∀ (bytes : List Byte) (last : Bool), s.tx.txq.length + bytes.length ≤ 24 →
      txqPush bytes last s =
        { s with tx := { s.tx with txq := s.tx.txq ++ txPairs bytes last } }) ∧
    (finishTx s =
      if s.sess.waitResp then
        { s with sess := { s.sess with
            seq := .initWait, timer := BitVec.ofNat 17 (s.regs.seqTimeout.toNat + 1) } }
      else enterDelay s) ∧
    (enterDelay s =
      let d := (scriptAt s s.sess.k).delay
      if d = 0#16 then advance s
      else { s with sess := { s.sess with
        seq := .initDelay, timer := BitVec.ofNat 17 (d.toNat + 1) } }) ∧
    (enterConnected s =
      { s with
        sess := { s.sess with
          seq := .connected
          timer := 0#17
          chosenBaud :=
            if s.sess.fam = .pcsc then 0#32 else s.sess.cand.getD s.sess.ci.toNat 0#32 }
        log := { s.log with irq := s.log.irq ||| 0x001#10 } }) ∧
    (stepResponseMatched s =
      let d := (scriptAt s s.sess.k).delay
      if d = 0#16 then advance { s with sess := { s.sess with timer := 0#17 } }
      else { s with sess := { s.sess with
        seq := .initDelay, timer := BitVec.ofNat 17 (d.toNat + 1) } }) ∧
    (∀ (k : BitVec 4) (h : k.toNat < 8), scriptAt s k = s.regs.script[k.toNat]'h) ∧
    (∀ h : s.sess.k.toNat < 8,
      let e := s.regs.script[s.sess.k.toNat]'h
      let t := startStep s
      s.tx.txq = [] → e.nbytes ≠ 0#5 → e.nbytes ≤ 24#5 →
        { t with tx := { t.tx with txq := [] } } =
            { s with sess := { s.sess with seq := .initTx } } ∧
          t.tx.txq.length = e.nbytes.toNat ∧
          ∀ j : Fin 24, j.val < e.nbytes.toNat →
            t.tx.txq[j.val]? =
              some ((e.data[j.val / 4]'(by omega)).extractLsb' (8 * (j.val % 4)) 8,
                decide (j.val + 1 = e.nbytes.toNat)))

/-- Baud-rate exhaustion (43_sequencer.md R239): with every open failing, CONNECT and the answers after it
pulse one open request for each latched candidate, in list order; FAILED with CONN_FAILED comes on the
last answer and not before. -/
def Obligations.EveryCandidateIsTriedOnceInOrder : Prop :=
  ∀ (s : State) (fam : Family) (errs : List (BitVec 2)) (m : Nat),
    s.regs.ctrl.family = familyCode fam → s.sess.seq ≠ .opening → s.sess.seq ≠ .aborting →
    RegsOk s.regs → errs ≠ [] → errs.length = (candidates fam s.regs).2.toNat → m ≤ errs.length →
    let r := openTrace (.connect :: (errs.take m).map (.openRsp false)) s
    r.1 =
        (List.range (min (m + 1) errs.length)).map (fun j =>
          (s.regs.channel, (candidates fam s.regs).1.getD j 0#32)) ∧
      (m < errs.length → r.2.sess.seq = .opening ∧ r.2.log = s.log) ∧
      (m = errs.length →
        r.2.sess.seq = .failed ∧ r.2.log = { s.log with irq := s.log.irq ||| 0x002#10 })

/-! ### Cards, transfer errors and reset -/

/-- CARD_PRESENT, and the APDU row that names its command, queue FF CA 00 00 00 with `tx_last` on the fifth
byte in a CONNECTED PC-SC session with no transmit pending, and do nothing otherwise (42_decoders.md
R196, 30_encoding.md R101; log 6). Where the five pairs do not fit in the queue, which the spec holds
to be empty here, the queue is some queue of at most 24 pairs and all else is the same (10_state.md
R58; log 10). -/
def Obligations.CardPresentIssuesTheGetUidCommand : Prop :=
  ∀ s : State, ∀ i ∈ [Instr.cardPresent, .pcscGetUid],
    let issues := s.sess.seq = .connected ∧ s.sess.fam = .pcsc ∧ s.rx.pcBusy = false
    let t := { s with rx := { s.rx with pcBuf := [], pcOvf := false, pcBusy := true } }
    (¬ issues → exec i s = .next s) ∧
    (issues → s.tx.txq.length ≤ 19 →
      exec i s =
        .next { t with
          tx := { s.tx with
            txq := s.tx.txq ++ [(0xFF#8, false), (0xCA#8, false), (0x00#8, false), (0x00#8, false),
              (0x00#8, true)] } }) ∧
    (issues → 19 < s.tx.txq.length →
      ∃ (q : List (Byte × Bool)) (n : Nat),
        q.length ≤ 24 ∧ exec i s = .next { t with tx := { s.tx with txq := q }, drawn := n })

/-- CARD_REMOVED has no effect on any state (42_decoders.md R199). -/
def Obligations.CardRemovedHasNoEffect : Prop :=
  ∀ s : State, exec .cardRemoved s = .next s

/-- XFER_ERR ends a pending transmit, with its flag, and does nothing otherwise (42_decoders.md R198). -/
def Obligations.TransferErrorEndsTheTransmit : Prop :=
  ∀ s : State,
    exec .xferErr s =
      .next
        (if s.rx.pcBusy then
          { s with
            rx := { s.rx with pcBuf := [], pcOvf := false, pcBusy := false }
            tx := { s.tx with txq := [] }
            log := { s.log with irq := s.log.irq ||| 0x100#10 } }
        else s)

/-- RESET puts every register and every piece of hidden state at the value 10_state.md R67 lists, and the
outputs at 0. -/
def Obligations.ResetLeavesTheListedValues : Prop :=
  ∀ s : State, ∃ t : State,
    exec .reset s = .next t ∧
      regRead 0x000#12 t = 0x43524331#32 ∧ regRead 0x004#12 t = 0x10#32 ∧
      regRead 0x02C#12 t = 1000#32 ∧ regRead 0x038#12 t = 0xFFFF#32 ∧
      regRead 0x030#12 t = 0#16 ++ Config.aCmdBufRst ++ Config.aCmdInvRst ∧
      (∀ o ∈ [0x00C#12, 0x010#12, 0x014#12, 0x018#12, 0x01C#12, 0x020#12, 0x024#12, 0x028#12, 0x034#12,
          0x040#12, 0x04C#12, 0x050#12, 0x054#12, 0x058#12, 0x05C#12, 0x060#12, 0x064#12, 0x068#12,
          0x06C#12, 0x070#12], regRead o t = 0#32) ∧
      (∀ n : Fin 8, regRead (BitVec.ofNat 12 (0x080 + 4 * n)) t = 0#32) ∧
      (∀ n : Fin 64, regRead (BitVec.ofNat 12 (0x100 + 4 * n)) t = 0#32) ∧
      t.sess.seq = .idle ∧ t.sess.fam = .a ∧ t.sess.chan = 0#8 ∧ t.sess.waitResp = false ∧
      t.sess.cand = [0#32, 0#32, 0#32, 0#32, 0#32, 0#32, 0#32, 0#32] ∧ t.sess.ncand = 0#4 ∧
      t.sess.ci = 0#4 ∧ t.sess.k = 0#4 ∧ t.sess.timer = 0#17 ∧ t.sess.handleOpen = false ∧
      t.rx.pend = [] ∧ t.rx.pcBuf = [] ∧ t.rx.pcOvf = false ∧ t.rx.pcBusy = false ∧
      t.tx.txq = [] ∧ t.tx.htx = [] ∧ t.evt = [] ∧ t.eng.crc = 0xFFFF#16 ∧ t.eng.xacc = 0#8 ∧
      irqLine t = false ∧ txValid t = false ∧ t.ports.openReq = none ∧ t.ports.closeReq = false

/-! ### Whole frames and responses -/

/-- A whole frame, or a whole response, received as one operation is its bytes received one by one, the
last beat of a response with `rx_last` = 1 (40_assembler.md R131, R140, R145, R147; the rows as
operations are log 5). -/
def Obligations.WholeFrameEqualsItsBytes : Prop :=
  ∀ (s : State) (f : List Byte) (i : Instr),
    ((decode (selectorsOf s) ⟨.frameA, f⟩ = .ok i ∨ decode (selectorsOf s) ⟨.frameB, f⟩ = .ok i) →
      exec i s = execAll (f.map fun b => .rxByte b false) s) ∧
    (∀ (r : List Byte) (b : Byte), decode (selectorsOf s) ⟨.apduResponse, r ++ [b]⟩ = .ok i →
      exec i s = execAll (r.map (fun x => .rxByte x false) ++ [.rxByte b true]) s)

/-- A family A inventory response in CONNECTED: FrameError without a status byte or without an
identifier, one TAG with everything from index 6 up to the checksum, NoTags, or ProtocolError with the
status; the checksum mismatch is logged and flagged on the record (42_decoders.md R181, R183, R184). -/
def Obligations.FamilyAInventoryOutcome : Prop :=
  ∀ (s : State) (f : List Byte), AtBoundary .a s → (Instr.aInventory f).wellFormed = true →
    (Instr.aInventory f).selected (selectorsOf s) = true →
    let l := logAfterCheckA f s.log
    let st := byteAt f 5
    exec (.aInventory f) s =
      .next
        (if f.length < 7 ∨ (f.length = 7 ∧ st = 0x01#8) then { s with log := l.plusFrameErr }
        else if st = 0x01#8 then
          publish [recordA .tag f 0#16 ((f.drop 6).take (f.length - 7))] { s with log := l }
        else if st = 0x00#8 then publish [recordA .noTags f 0#16 []] { s with log := l }
        else
          publish [recordA .protoErr f (st.setWidth 16) []]
            { s with log := l.plusProtoErr (st.setWidth 16) })

/-- A family A buffer response in CONNECTED: FrameError without a count byte, else the whole 12-byte slots
among the count announced, in order, with PARTIAL when they are fewer; none at all is NoTags
(42_decoders.md R185, 30_encoding.md R96). -/
def Obligations.FamilyABufferOutcome : Prop :=
  ∀ (s : State) (f : List Byte), AtBoundary .a s → (Instr.aBuffer f).wellFormed = true →
    (Instr.aBuffer f).selected (selectorsOf s) = true →
    let l := logAfterCheckA f s.log
    let count := (byteAt f 5).toNat
    let k := min count ((f.length - 7) / 12)
    exec (.aBuffer f) s =
      .next
        (if f.length < 7 then { s with log := l.plusFrameErr }
        else
          publish
            (batchRecords (fun kind id => recordA kind f 0#16 id)
              ((List.range k).map fun j => (f.drop (6 + 12 * j)).take 12))
            { s with log := if k < count then l.plusPartial else l })

/-- The other family A frames in CONNECTED: an Ack with the frame's header; a FrameError for LEN below 2,
its checksum not looked at; and, under strict mode, a dropped frame with CSUM_ERR only (42_decoders.md
R180, R181, R186). -/
def Obligations.FamilyAAckErrorAndStrictDrop : Prop :=
  ∀ (s : State) (f : List Byte), AtBoundary .a s →
    ((Instr.aAck f).wellFormed = true → (Instr.aAck f).selected (selectorsOf s) = true →
      exec (.aAck f) s =
        .next (publish [recordA .ack f 0#16 []] { s with log := logAfterCheckA f s.log })) ∧
    ((Instr.aFrameError f).wellFormed = true →
      (Instr.aFrameError f).selected (selectorsOf s) = true →
      exec (.aFrameError f) s =
        .next { s with log := { s.log.plusFrameErr with frames := s.log.frames + 1 } }) ∧
    ((Instr.aStrictDrop f).wellFormed = true →
      (Instr.aStrictDrop f).selected (selectorsOf s) = true →
      exec (.aStrictDrop f) s =
        .next { s with
          log := { s.log with
            frames := s.log.frames + 1
            csumErr := s.log.csumErr + 1
            irq := s.log.irq ||| 0x008#10 } })

/-- A family B inventory response with the status 0x01 in CONNECTED, its records written out: those with
bytes are published as TAGs in order, or one NOTAGS; what follows the last counted record is ignored;
when the count promises more and the rest of the region holds no whole record, PARTIAL is logged
(42_decoders.md R192, R193; 30_encoding.md R100). -/
def Obligations.FamilyBTagRecordsOutcome : Prop :=
  ∀ (s : State) (f : List Byte) (n addr count lo hi : Byte) (ids : List (List Byte))
      (tail : List Byte),
    AtBoundary .b s → (Instr.bInventory f).wellFormed = true →
    f = [n, addr, 0x01#8, 0x01#8, count] ++ tagRecordBytes ids ++ tail ++ [lo, hi] →
    (∀ id ∈ ids, id.length ≤ 255) →
    let recs := batchRecords (fun kind id => recordB kind f 0#16 id) (ids.filter (· ≠ []))
    let l := { s.log with frames := s.log.frames + 1 }
    (count.toNat = ids.length → exec (.bInventory f) s = .next (publish recs { s with log := l })) ∧
    (ids.length < count.toNat → (tail = [] ∨ tail.length ≤ (tail.headD 0#8).toNat) →
      exec (.bInventory f) s = .next (publish recs { s with log := l.plusPartial }))

/-- The other outcomes of family B in CONNECTED: an inventory response too short for its status or its
count is a FrameError, 0xFB is NoTags, a status that carries no records is a ProtocolError; any other
CMD is an Ack; and a CRC mismatch drops the frame with CSUM_ERR (42_decoders.md R190, R191, R193,
R194). -/
def Obligations.FamilyBOtherOutcomes : Prop :=
  ∀ (s : State) (f : List Byte), AtBoundary .b s →
    let l := { s.log with frames := s.log.frames + 1 }
    let st := byteAt f 3
    ((Instr.bInventory f).wellFormed = true → (f.length < 6 ∨ (st = 0x01#8 ∧ f.length = 6)) →
      exec (.bInventory f) s = .next { s with log := l.plusFrameErr }) ∧
    ((Instr.bInventory f).wellFormed = true → 6 ≤ f.length → st = 0xFB#8 →
      exec (.bInventory f) s = .next (publish [recordB .noTags f 0#16 []] { s with log := l })) ∧
    ((Instr.bInventory f).wellFormed = true → 6 ≤ f.length → st ≠ 0xFB#8 → st ≠ 0x01#8 →
      exec (.bInventory f) s =
        .next (publish [recordB .protoErr f (st.setWidth 16) []]
          { s with log := l.plusProtoErr (st.setWidth 16) })) ∧
    ((Instr.bAck f).wellFormed = true →
      exec (.bAck f) s = .next (publish [recordB .ack f 0#16 []] { s with log := l })) ∧
    ((Instr.bCrcDrop f).wellFormed = true →
      exec (.bCrcDrop f) s =
        .next { s with
          log := { l with csumErr := l.csumErr + 1, irq := l.irq ||| 0x008#10 } })

/-- A PC-SC response that is awaited ends the transmit, is counted and gives one outcome: FrameError for one
byte or more than 258, NoTags for 90 00 alone, one TAG with the UID, or ProtocolError with the status
word (42_decoders.md R197, 40_assembler.md R145, 30_encoding.md R102). -/
def Obligations.PcscResponseOutcome : Prop :=
  ∀ s : State, AwaitsResponse s →
    let t := { s with
      rx := { s.rx with pcBusy := false }, log := { s.log with frames := s.log.frames + 1 } }
    (∀ r : List Byte, (r.length = 1 ∨ 258 < r.length) →
      exec (.pcscFrameError r) s = .next { t with log := t.log.plusFrameErr }) ∧
    exec .pcscNotags s = .next (publish [recordPcsc .noTags 0#16 []] t) ∧
    (∀ uid : List Byte, 1 ≤ uid.length → uid.length ≤ 256 →
      exec (.pcscTag uid) s = .next (publish [recordPcsc .tag 0#16 uid] t)) ∧
    (∀ (r : List Byte) (sw1 sw2 : Byte), r.length ≤ 256 → (sw1 ≠ 0x90#8 ∨ sw2 ≠ 0x00#8) →
      exec (.pcscProtoError (r ++ [sw1, sw2])) s =
        .next (publish [recordPcsc .protoErr (BitVec.ofNat 16 (256 * sw1.toNat + sw2.toNat)) []]
          { t with
            log := t.log.plusProtoErr (BitVec.ofNat 16 (256 * sw1.toNat + sw2.toNat)) }))

/-- During the init script a completed frame publishes nothing and logs what its rules say, in every state
in which it is decoded. In INIT_WAIT one that passed its integrity checks and carries the expected
header also completes the step (42_decoders.md R202, R180 to R194; 43_sequencer.md R237). -/
def Obligations.InitResponsesAreMatchedNotPublished : Prop :=
  ∀ (s : State) (f : List Byte) (i : Instr),
    (s.sess.seq = .initTx ∨ s.sess.seq = .initWait ∨ s.sess.seq = .initDelay) → s.rx.pend = [] →
    (s.sess.fam = .a → decode (selectorsOf s) ⟨.frameA, f⟩ = .ok i →
      exec i s =
        .next
          (if s.sess.seq = .initWait ∧ AnswersStepA s f then
            stepResponseMatched { s with log := logAfterFrameA s f }
          else { s with log := logAfterFrameA s f })) ∧
    (s.sess.fam = .b → decode (selectorsOf s) ⟨.frameB, f⟩ = .ok i →
      exec i s =
        .next
          (if s.sess.seq = .initWait ∧ AnswersStepB s f then
            stepResponseMatched { s with log := logAfterFrameB s f }
          else { s with log := logAfterFrameB s f }))

/-- `push_evt` over the records of one outcome: a full FIFO keeps what it holds; the records that fit are
appended in order, and each lost one counts once, with EVT_OVF (42_decoders.md R200). -/
def Obligations.FullFifoKeepsTheOldestRecords : Prop :=
  ∀ (rs : List Record) (s : State),
    let room := 16 - s.evt.length
    publish rs s =
      { s with
        evt := s.evt ++ rs.take room
        log :=
          if rs.length ≤ room then s.log
          else { s.log with
            evtOvf := s.log.evtOvf + BitVec.ofNat 32 (rs.length - room)
            irq := s.log.irq ||| 0x004#10 } }

/-! ### The engines' laws -/

/-- The two forms of the family B frame check agree, and appending a sequence's CRC, low byte first, makes
it pass (41_checksum_crc.md R167, R168). -/
def Obligations.CrcCheckFormsAgreeAndRoundTrip : Prop :=
  (∀ f : List Byte, 2 ≤ f.length →
      (crcOk f = true ↔
        (crc16 (f.take (f.length - 2))).toNat =
          (byteAt f (f.length - 2)).toNat + 256 * (byteAt f (f.length - 1)).toNat) ∧
      (crcOk f = true ↔ crc16 f = 0x0000#16)) ∧
    ∀ b : List Byte,
      crcOk (b ++ [(crc16 b).extractLsb' 0 8, (crc16 b).extractLsb' 8 8]) = true

/-- The two forms of the family A frame check agree (41_checksum_crc.md R171). -/
def Obligations.XorCheckFormsAgree : Prop :=
  ∀ f : List Byte, 3 ≤ f.length →
    (csumOk f = true ↔ xor8 ((f.drop 1).take (f.length - 2)) = byteAt f (f.length - 1)) ∧
      (csumOk f = true ↔ xor8 (f.drop 1) = 0x00#8)

/-- `crc_step` is linear over GF(2): shifts and exclusive OR, with no carries (41_checksum_crc.md R177). -/
def Obligations.CrcStepIsLinearOverGF2 : Prop :=
  ∀ (c d : BitVec 16) (a b : Byte), crcStep (c ^^^ d) (a ^^^ b) = crcStep c a ^^^ crcStep d b

/-! ### Rules of the whole block -/

/-- `irq` is 1 exactly when a bit is set in both IRQ_STATUS and IRQ_EN (60_exceptions.md R310). -/
def Obligations.InterruptIsAnEnabledPendingBit : Prop :=
  ∀ s : State,
    irqLine s = true ↔
      ∃ j : Nat, j ≤ 10 ∧ (regRead 0x010#12 s).getLsbD j = true ∧
        (regRead 0x014#12 s).getLsbD j = true

/-- Only a write of a register, a command that names an engine and RESET change the host's registers and
the host engines: frames, bytes and the sequencer never do (41_checksum_crc.md R166, R175; 20_memory.md
R72, R73). -/
def Obligations.OnlyTheHostChangesItsRegistersAndEngines : Prop :=
  ∀ (i : Instr) (s t : State), exec i s = .next t →
    (t.regs = s.regs ∨ i = .reset ∨
      ∃ v : Word, i ∈ [.wrCtrl v, .wrIrqEn v, .wrChannel v, .wrBaudCount v, .wrBaudOverride v,
          .wrSeqTimeout v, .wrACmdSel v, .wrInitCount v] ∨
        (∃ n : BitVec 3, i = .wrBaudCand n v) ∨ ∃ k w : BitVec 3, i = .wrInitScript k w v) ∧
    (t.eng = s.eng ∨ i ∈ [.crcInit, .xorInit, .reset] ∨
      ∃ v : Word, (i = .wrCmd v ∧ (v.toNat % 16 = 4 ∨ v.toNat % 16 = 5)) ∨
        i ∈ [.wrCrcValue v, .wrCrcData v, .wrXorValue v, .wrXorData v])

/-- No event but those of 43_sequencer.md R220's table changes `S.state`, and each moves it from the
table's state, on the table's condition, to the table's state; "next step" is what starting that
step leads to (R228, R232, R238). A frame that matches is the bytes pending and the one received, for
a pending buffer of the form the rules keep, or the frame of a frame row at a boundary. -/
def Obligations.OnlyTheTableMovesTheSequencer : Prop :=
  ∀ (i : Instr) (s t : State), exec i s = .next t →
    t.sess.seq = s.sess.seq ∨
    (i = .reset ∧ t.sess.seq = .idle) ∨
    ((i = .connect ∨ ∃ v : Word, i = .wrCmd v ∧ v.toNat % 16 = 1) ∧
      s.sess.seq ∉ [.opening, .aborting] ∧
      ∃ fam : Family, s.regs.ctrl.family = familyCode fam ∧
        t.sess.seq = if (candidates fam s.regs).2 = 0#4 then .failed else .opening) ∨
    ((i = .disconnect ∨ ∃ v : Word, i = .wrCmd v ∧ v.toNat % 16 = 2) ∧
      s.sess.seq ∉ [.idle, .aborting] ∧
      t.sess.seq = if s.sess.seq = .opening then .aborting else .idle) ∨
    (∃ (ok : Bool) (err : BitVec 2), i = .openRsp ok err ∧
      ((s.sess.seq = .aborting ∧ t.sess.seq = .idle) ∨
        (s.sess.seq = .opening ∧ ok = false ∧ s.sess.ci + 1 = s.sess.ncand ∧
          t.sess.seq = .failed) ∨
        (s.sess.seq = .opening ∧ ok = true ∧
          t.sess.seq =
            if s.sess.fam = .pcsc ∨ s.regs.initCount = 0#4 then .connected
            else seqAfterStart s 16 0#4))) ∨
    (i = .txBeat ∧ s.sess.seq = .initTx ∧ s.tx.txq.length = 1 ∧
      t.sess.seq = if s.sess.waitResp then .initWait else seqAfterResponse s) ∨
    (i = .tick ∧ s.sess.seq = .initWait ∧ s.sess.timer = 1#17 ∧
      t.sess.seq = if s.sess.ci + 1 = s.sess.ncand then .failed else .opening) ∨
    (i = .tick ∧ s.sess.seq = .initDelay ∧ s.sess.timer = 1#17 ∧ t.sess.seq = seqAfterStep s) ∨
    (s.sess.seq = .initWait ∧ t.sess.seq ∈ [.initTx, .initDelay, .connected] ∧
      ((∃ (b : Byte) (last : Bool), i = .rxByte b last ∧
          (PendOk s.sess.fam s.rx.pend →
            t.sess.seq = seqAfterResponse s ∧
              ((s.sess.fam = .a ∧ isFrameA (s.rx.pend ++ [b]) = true ∧
                  AnswersStepA s (s.rx.pend ++ [b])) ∨
                (s.sess.fam = .b ∧ isFrameB (s.rx.pend ++ [b]) = true ∧
                  AnswersStepB s (s.rx.pend ++ [b]))))) ∨
        (∃ f : List Byte, i ∈ [.aFrameError f, .aStrictDrop f, .aInventory f, .aBuffer f, .aAck f] ∧
          (s.sess.fam = .a → s.rx.pend = [] → i.wellFormed = true →
            i.selected (selectorsOf s) = true →
              t.sess.seq = seqAfterResponse s ∧ AnswersStepA s f)) ∨
        (∃ f : List Byte, i ∈ [.bCrcDrop f, .bInventory f, .bAck f] ∧
          (s.sess.fam = .b → s.rx.pend = [] → i.wellFormed = true →
            t.sess.seq = seqAfterResponse s ∧ AnswersStepB s f)) ∨
        (∃ f : List Byte, i ∈ [.pcscFrameError f, .pcscNotags, .pcscTag f, .pcscProtoError f])))

/-- Between two steps the event FIFO only grows at its end, unless the step is an EVT_POP or a RESET: the
head record and every record behind it stay as they were pushed; and a byte received on a pending
buffer of R133's form adds a record only in CONNECTED (20_memory.md R78, 44_host_ops.md R264, 42_decoders.md R202). -/
def Obligations.PublishedRecordsAreNeverChanged : Prop :=
  ∀ (i : Instr) (s t : State), exec i s = .next t →
    ((∃ new : List Record, t.evt = s.evt ++ new) ∨ i = .reset ∨
      ((i = .evtPop ∨ ∃ v : Word, i = .wrCmd v ∧ v.toNat % 16 = 6) ∧ t.evt = s.evt.drop 1)) ∧
    (∀ (b : Byte) (last : Bool), i = .rxByte b last → PendOk s.sess.fam s.rx.pend →
      t.evt ≠ s.evt → s.sess.seq = .connected)

/-- On a state the rules allow, a step pulses `close_req` only for a handle it holds or for one an aborted
open has just given, and holds none of the old session's afterwards; and it pulses `open_req` only
with no other open in flight (43_sequencer.md R222; log 11 on ABORTING). -/
def Obligations.ClosesAndOpensArePaired : Prop :=
  ∀ (i : Instr) (s t : State), Inv s → exec i (beginStep s.inputs s) = .next t →
    (t.ports.closeReq = true →
      t.sess.handleOpen = false ∧
        (s.sess.handleOpen = true ∨
          (s.sess.seq = .aborting ∧ ∃ err : BitVec 2, i = .openRsp true err))) ∧
    (∀ (chan : Byte) (baud : Word), t.ports.openReq = some (chan, baud) →
      t.sess.seq = .opening ∧ chan = t.sess.chan ∧ t.sess.cand[t.sess.ci.toNat]? = some baud ∧
        s.sess.seq ≠ .aborting ∧ (s.sess.seq = .opening → ∃ err : BitVec 2, i = .openRsp false err))

/-- The invariant holds right after reset (10_state.md R67). -/
def Obligations.ResetStateIsAllowed : Prop :=
  Inv State.reset

/-- Every step from a state the rules allow leaves one: the WARL fields stay legal, the pending buffer
keeps R133's form, the levels stay within their FIFOs, a handle is held exactly in the live states,
the timer runs exactly in the two waits, and every record has its kind's form (10_state.md R31, R37,
R49 to R59; 30_encoding.md R104; 40_assembler.md R133). -/
def Obligations.EveryStepKeepsTheRules : Prop :=
  ∀ s t : State, Inv s → step s = .next t → Inv t

end Slice0Obligations
end

