-- ==== Sys2Proof/Laws/State.lean ====
section
/-!
SUPPORT. One lemma for each field of State under each named update, so that no proof unfolds a record
update.
-/

namespace Sys2Proof.Machine

/-! ### `setIrq` -/

@[simp] theorem setIrq_regs (b : IrqBit) (s : State) :
    (setIrq b s).regs = s.regs := rfl

@[simp] theorem setIrq_sess (b : IrqBit) (s : State) :
    (setIrq b s).sess = s.sess := rfl

@[simp] theorem setIrq_rx (b : IrqBit) (s : State) :
    (setIrq b s).rx = s.rx := rfl

@[simp] theorem setIrq_tx (b : IrqBit) (s : State) :
    (setIrq b s).tx = s.tx := rfl

@[simp] theorem setIrq_evt (b : IrqBit) (s : State) :
    (setIrq b s).evt = s.evt := rfl

@[simp] theorem setIrq_eng (b : IrqBit) (s : State) :
    (setIrq b s).eng = s.eng := rfl

@[simp] theorem setIrq_log (b : IrqBit) (s : State) :
    (setIrq b s).log = { s.log with irq := setIrqBit s.log.irq b } := rfl

@[simp] theorem setIrq_ports (b : IrqBit) (s : State) :
    (setIrq b s).ports = s.ports := rfl

@[simp] theorem setIrq_inputs (b : IrqBit) (s : State) :
    (setIrq b s).inputs = s.inputs := rfl

@[simp] theorem setIrq_drawn (b : IrqBit) (s : State) :
    (setIrq b s).drawn = s.drawn := rfl

/-! ### `clearIrq` -/

@[simp] theorem clearIrq_regs (v : Word) (s : State) :
    (clearIrq v s).regs = s.regs := rfl

@[simp] theorem clearIrq_sess (v : Word) (s : State) :
    (clearIrq v s).sess = s.sess := rfl

@[simp] theorem clearIrq_rx (v : Word) (s : State) :
    (clearIrq v s).rx = s.rx := rfl

@[simp] theorem clearIrq_tx (v : Word) (s : State) :
    (clearIrq v s).tx = s.tx := rfl

@[simp] theorem clearIrq_evt (v : Word) (s : State) :
    (clearIrq v s).evt = s.evt := rfl

@[simp] theorem clearIrq_eng (v : Word) (s : State) :
    (clearIrq v s).eng = s.eng := rfl

@[simp] theorem clearIrq_log (v : Word) (s : State) :
    (clearIrq v s).log = { s.log with irq := s.log.irq &&& ~~~(v.extractLsb' 1 10) } := rfl

@[simp] theorem clearIrq_ports (v : Word) (s : State) :
    (clearIrq v s).ports = s.ports := rfl

@[simp] theorem clearIrq_inputs (v : Word) (s : State) :
    (clearIrq v s).inputs = s.inputs := rfl

@[simp] theorem clearIrq_drawn (v : Word) (s : State) :
    (clearIrq v s).drawn = s.drawn := rfl

/-! ### `busReturn` -/

@[simp] theorem busReturn_regs (v : Word) (s : State) :
    (busReturn v s).regs = s.regs := rfl

@[simp] theorem busReturn_sess (v : Word) (s : State) :
    (busReturn v s).sess = s.sess := rfl

@[simp] theorem busReturn_rx (v : Word) (s : State) :
    (busReturn v s).rx = s.rx := rfl

@[simp] theorem busReturn_tx (v : Word) (s : State) :
    (busReturn v s).tx = s.tx := rfl

@[simp] theorem busReturn_evt (v : Word) (s : State) :
    (busReturn v s).evt = s.evt := rfl

@[simp] theorem busReturn_eng (v : Word) (s : State) :
    (busReturn v s).eng = s.eng := rfl

@[simp] theorem busReturn_log (v : Word) (s : State) :
    (busReturn v s).log = s.log := rfl

@[simp] theorem busReturn_ports (v : Word) (s : State) :
    (busReturn v s).ports = { s.ports with busErr := false, busRdata := some v } := rfl

@[simp] theorem busReturn_inputs (v : Word) (s : State) :
    (busReturn v s).inputs = s.inputs := rfl

@[simp] theorem busReturn_drawn (v : Word) (s : State) :
    (busReturn v s).drawn = s.drawn := rfl

/-! ### `raiseBusError` -/

@[simp] theorem raiseBusError_regs (s : State) :
    (raiseBusError s).regs = s.regs := rfl

@[simp] theorem raiseBusError_sess (s : State) :
    (raiseBusError s).sess = s.sess := rfl

@[simp] theorem raiseBusError_rx (s : State) :
    (raiseBusError s).rx = s.rx := rfl

@[simp] theorem raiseBusError_tx (s : State) :
    (raiseBusError s).tx = s.tx := rfl

@[simp] theorem raiseBusError_evt (s : State) :
    (raiseBusError s).evt = s.evt := rfl

@[simp] theorem raiseBusError_eng (s : State) :
    (raiseBusError s).eng = s.eng := rfl

@[simp] theorem raiseBusError_log (s : State) :
    (raiseBusError s).log = s.log := rfl

@[simp] theorem raiseBusError_ports (s : State) :
    (raiseBusError s).ports = { s.ports with busErr := true, busRdata := some 0#32 } := rfl

@[simp] theorem raiseBusError_inputs (s : State) :
    (raiseBusError s).inputs = s.inputs := rfl

@[simp] theorem raiseBusError_drawn (s : State) :
    (raiseBusError s).drawn = s.drawn := rfl

/-! ### `emitOpen` -/

@[simp] theorem emitOpen_regs (chan : Byte) (baud : Word) (s : State) :
    (emitOpen chan baud s).regs = s.regs := rfl

@[simp] theorem emitOpen_sess (chan : Byte) (baud : Word) (s : State) :
    (emitOpen chan baud s).sess = s.sess := rfl

@[simp] theorem emitOpen_rx (chan : Byte) (baud : Word) (s : State) :
    (emitOpen chan baud s).rx = s.rx := rfl

@[simp] theorem emitOpen_tx (chan : Byte) (baud : Word) (s : State) :
    (emitOpen chan baud s).tx = s.tx := rfl

@[simp] theorem emitOpen_evt (chan : Byte) (baud : Word) (s : State) :
    (emitOpen chan baud s).evt = s.evt := rfl

@[simp] theorem emitOpen_eng (chan : Byte) (baud : Word) (s : State) :
    (emitOpen chan baud s).eng = s.eng := rfl

@[simp] theorem emitOpen_log (chan : Byte) (baud : Word) (s : State) :
    (emitOpen chan baud s).log = s.log := rfl

@[simp] theorem emitOpen_ports (chan : Byte) (baud : Word) (s : State) :
    (emitOpen chan baud s).ports = { s.ports with openReq := some (chan, baud) } := rfl

@[simp] theorem emitOpen_inputs (chan : Byte) (baud : Word) (s : State) :
    (emitOpen chan baud s).inputs = s.inputs := rfl

@[simp] theorem emitOpen_drawn (chan : Byte) (baud : Word) (s : State) :
    (emitOpen chan baud s).drawn = s.drawn := rfl

/-! ### `emitClose` -/

@[simp] theorem emitClose_regs (s : State) :
    (emitClose s).regs = s.regs := rfl

@[simp] theorem emitClose_sess (s : State) :
    (emitClose s).sess = s.sess := rfl

@[simp] theorem emitClose_rx (s : State) :
    (emitClose s).rx = s.rx := rfl

@[simp] theorem emitClose_tx (s : State) :
    (emitClose s).tx = s.tx := rfl

@[simp] theorem emitClose_evt (s : State) :
    (emitClose s).evt = s.evt := rfl

@[simp] theorem emitClose_eng (s : State) :
    (emitClose s).eng = s.eng := rfl

@[simp] theorem emitClose_log (s : State) :
    (emitClose s).log = s.log := rfl

@[simp] theorem emitClose_ports (s : State) :
    (emitClose s).ports = { s.ports with closeReq := true } := rfl

@[simp] theorem emitClose_inputs (s : State) :
    (emitClose s).inputs = s.inputs := rfl

@[simp] theorem emitClose_drawn (s : State) :
    (emitClose s).drawn = s.drawn := rfl

/-! ### `beginStep` -/

@[simp] theorem beginStep_regs (rest : List Input) (s : State) :
    (beginStep rest s).regs = s.regs := rfl

@[simp] theorem beginStep_sess (rest : List Input) (s : State) :
    (beginStep rest s).sess = s.sess := rfl

@[simp] theorem beginStep_rx (rest : List Input) (s : State) :
    (beginStep rest s).rx = s.rx := rfl

@[simp] theorem beginStep_tx (rest : List Input) (s : State) :
    (beginStep rest s).tx = s.tx := rfl

@[simp] theorem beginStep_evt (rest : List Input) (s : State) :
    (beginStep rest s).evt = s.evt := rfl

@[simp] theorem beginStep_eng (rest : List Input) (s : State) :
    (beginStep rest s).eng = s.eng := rfl

@[simp] theorem beginStep_log (rest : List Input) (s : State) :
    (beginStep rest s).log = s.log := rfl

@[simp] theorem beginStep_ports (rest : List Input) (s : State) :
    (beginStep rest s).ports = Ports.quiet := rfl

@[simp] theorem beginStep_inputs (rest : List Input) (s : State) :
    (beginStep rest s).inputs = rest := rfl

@[simp] theorem beginStep_drawn (rest : List Input) (s : State) :
    (beginStep rest s).drawn = s.drawn := rfl

/-! ### `countFrame` -/

@[simp] theorem countFrame_regs (s : State) :
    (countFrame s).regs = s.regs := rfl

@[simp] theorem countFrame_sess (s : State) :
    (countFrame s).sess = s.sess := rfl

@[simp] theorem countFrame_rx (s : State) :
    (countFrame s).rx = s.rx := rfl

@[simp] theorem countFrame_tx (s : State) :
    (countFrame s).tx = s.tx := rfl

@[simp] theorem countFrame_evt (s : State) :
    (countFrame s).evt = s.evt := rfl

@[simp] theorem countFrame_eng (s : State) :
    (countFrame s).eng = s.eng := rfl

@[simp] theorem countFrame_log (s : State) :
    (countFrame s).log = { s.log with frames := s.log.frames + 1 } := rfl

@[simp] theorem countFrame_ports (s : State) :
    (countFrame s).ports = s.ports := rfl

@[simp] theorem countFrame_inputs (s : State) :
    (countFrame s).inputs = s.inputs := rfl

@[simp] theorem countFrame_drawn (s : State) :
    (countFrame s).drawn = s.drawn := rfl

/-! ### `countDiscard` -/

@[simp] theorem countDiscard_regs (n : Nat) (s : State) :
    (countDiscard n s).regs = s.regs := rfl

@[simp] theorem countDiscard_sess (n : Nat) (s : State) :
    (countDiscard n s).sess = s.sess := rfl

@[simp] theorem countDiscard_rx (n : Nat) (s : State) :
    (countDiscard n s).rx = s.rx := rfl

@[simp] theorem countDiscard_tx (n : Nat) (s : State) :
    (countDiscard n s).tx = s.tx := rfl

@[simp] theorem countDiscard_evt (n : Nat) (s : State) :
    (countDiscard n s).evt = s.evt := rfl

@[simp] theorem countDiscard_eng (n : Nat) (s : State) :
    (countDiscard n s).eng = s.eng := rfl

@[simp] theorem countDiscard_log (n : Nat) (s : State) :
    (countDiscard n s).log = { s.log with discard := s.log.discard + BitVec.ofNat 32 n } := rfl

@[simp] theorem countDiscard_ports (n : Nat) (s : State) :
    (countDiscard n s).ports = s.ports := rfl

@[simp] theorem countDiscard_inputs (n : Nat) (s : State) :
    (countDiscard n s).inputs = s.inputs := rfl

@[simp] theorem countDiscard_drawn (n : Nat) (s : State) :
    (countDiscard n s).drawn = s.drawn := rfl

/-! ### `txqPush` -/

@[simp] theorem txqPush_regs (bs : List Byte) (last : Bool) (s : State) :
    (txqPush bs last s).regs = s.regs := rfl

@[simp] theorem txqPush_sess (bs : List Byte) (last : Bool) (s : State) :
    (txqPush bs last s).sess = s.sess := rfl

@[simp] theorem txqPush_rx (bs : List Byte) (last : Bool) (s : State) :
    (txqPush bs last s).rx = s.rx := rfl

@[simp] theorem txqPush_tx (bs : List Byte) (last : Bool) (s : State) :
    (txqPush bs last s).tx =
      { s.tx with txq := txqHold s.drawn (s.tx.txq ++ txPairs bs last) } := rfl

@[simp] theorem txqPush_evt (bs : List Byte) (last : Bool) (s : State) :
    (txqPush bs last s).evt = s.evt := rfl

@[simp] theorem txqPush_eng (bs : List Byte) (last : Bool) (s : State) :
    (txqPush bs last s).eng = s.eng := rfl

@[simp] theorem txqPush_log (bs : List Byte) (last : Bool) (s : State) :
    (txqPush bs last s).log = s.log := rfl

@[simp] theorem txqPush_ports (bs : List Byte) (last : Bool) (s : State) :
    (txqPush bs last s).ports = s.ports := rfl

@[simp] theorem txqPush_inputs (bs : List Byte) (last : Bool) (s : State) :
    (txqPush bs last s).inputs = s.inputs := rfl

@[simp] theorem txqPush_drawn (bs : List Byte) (last : Bool) (s : State) :
    (txqPush bs last s).drawn =
      if txqFits (s.tx.txq ++ txPairs bs last) then s.drawn else s.drawn + 1 := rfl

/-! ### `logCause` -/

@[simp] theorem logCause_regs (c : LogCause) (s : State) :
    (logCause c s).regs = s.regs := rfl

@[simp] theorem logCause_sess (c : LogCause) (s : State) :
    (logCause c s).sess = s.sess := rfl

@[simp] theorem logCause_rx (c : LogCause) (s : State) :
    (logCause c s).rx = s.rx := rfl

@[simp] theorem logCause_tx (c : LogCause) (s : State) :
    (logCause c s).tx = s.tx := rfl

@[simp] theorem logCause_evt (c : LogCause) (s : State) :
    (logCause c s).evt = s.evt := rfl

@[simp] theorem logCause_eng (c : LogCause) (s : State) :
    (logCause c s).eng = s.eng := rfl

@[simp] theorem logCause_log (c : LogCause) (s : State) :
    (logCause c s).log = { bumpCounter c s.log with irq := setIrqBit s.log.irq c.irqBit } := by
  cases c <;> rfl

@[simp] theorem logCause_ports (c : LogCause) (s : State) :
    (logCause c s).ports = s.ports := rfl

@[simp] theorem logCause_inputs (c : LogCause) (s : State) :
    (logCause c s).inputs = s.inputs := rfl

@[simp] theorem logCause_drawn (c : LogCause) (s : State) :
    (logCause c s).drawn = s.drawn := rfl

/-! ### `frameError` -/

@[simp] theorem frameError_regs (s : State) :
    (frameError s).regs = s.regs := rfl

@[simp] theorem frameError_sess (s : State) :
    (frameError s).sess = s.sess := rfl

@[simp] theorem frameError_rx (s : State) :
    (frameError s).rx = s.rx := rfl

@[simp] theorem frameError_tx (s : State) :
    (frameError s).tx = s.tx := rfl

@[simp] theorem frameError_evt (s : State) :
    (frameError s).evt = s.evt := rfl

@[simp] theorem frameError_eng (s : State) :
    (frameError s).eng = s.eng := rfl

@[simp] theorem frameError_log (s : State) :
    (frameError s).log =
      { s.log with frameErr := s.log.frameErr + 1, irq := setIrqBit s.log.irq .frameErr } := rfl

@[simp] theorem frameError_ports (s : State) :
    (frameError s).ports = s.ports := rfl

@[simp] theorem frameError_inputs (s : State) :
    (frameError s).inputs = s.inputs := rfl

@[simp] theorem frameError_drawn (s : State) :
    (frameError s).drawn = s.drawn := rfl

/-! ### `protoError` -/

@[simp] theorem protoError_regs (code : BitVec 16) (s : State) :
    (protoError code s).regs = s.regs := rfl

@[simp] theorem protoError_sess (code : BitVec 16) (s : State) :
    (protoError code s).sess = s.sess := rfl

@[simp] theorem protoError_rx (code : BitVec 16) (s : State) :
    (protoError code s).rx = s.rx := rfl

@[simp] theorem protoError_tx (code : BitVec 16) (s : State) :
    (protoError code s).tx = s.tx := rfl

@[simp] theorem protoError_evt (code : BitVec 16) (s : State) :
    (protoError code s).evt = s.evt := rfl

@[simp] theorem protoError_eng (code : BitVec 16) (s : State) :
    (protoError code s).eng = s.eng := rfl

@[simp] theorem protoError_log (code : BitVec 16) (s : State) :
    (protoError code s).log =
      { s.log with
        protoErr := s.log.protoErr + 1, protoCode := code, irq := setIrqBit s.log.irq .protoErr } := rfl

@[simp] theorem protoError_ports (code : BitVec 16) (s : State) :
    (protoError code s).ports = s.ports := rfl

@[simp] theorem protoError_inputs (code : BitVec 16) (s : State) :
    (protoError code s).inputs = s.inputs := rfl

@[simp] theorem protoError_drawn (code : BitVec 16) (s : State) :
    (protoError code s).drawn = s.drawn := rfl

end Sys2Proof.Machine
end

