-- ==== Sys2Proof/Laws/Ops.lean ====
section
/-!
SUPPORT. For each shared operation, what it can do, said once: proofs cite these lemmas and do not unfold
the operation.
-/

namespace Sys2Proof.Machine

/-! ### Words and items -/

/-- Bit i of a packed word is bit i % 8 of its byte i / 8 (20_memory.md R76). -/
theorem getLsbD_packWord (b0 b1 b2 b3 : Byte) (i : Nat) :
    (packWord b0 b1 b2 b3).getLsbD i =
      if i < 8 then b0.getLsbD i
      else if i < 16 then b1.getLsbD (i - 8)
      else if i < 24 then b2.getLsbD (i - 16)
      else b3.getLsbD (i - 24) := by
  refine (BitVec.getLsbD_append (x := b3 ++ b2 ++ b1) (y := b0) (i := i)).trans ?_
  rw [BitVec.getLsbD_append (x := b3 ++ b2) (y := b1) (i := i - 8),
    BitVec.getLsbD_append (x := b3) (y := b2) (i := i - 8 - 8)]
  by_cases h1 : i < 8
  · simp [h1]
  · by_cases h2 : i < 16
    · simp [h1, h2, show i - 8 < 8 by omega]
    · by_cases h3 : i < 24
      · simp [h1, h2, h3, show ¬ i - 8 < 8 by omega, Nat.sub_sub, show i - 16 < 8 by omega]
      · simp [h1, h2, h3, show ¬ i - 8 < 8 by omega, Nat.sub_sub, show ¬ i - 16 < 8 by omega]

/-- A word is the packing of its four lanes (20_memory.md R76). -/
theorem packWord_lanes (v : Word) : packWord (lane v 0) (lane v 1) (lane v 2) (lane v 3) = v := by
  apply BitVec.eq_of_getLsbD_eq
  intro i hi
  rw [getLsbD_packWord]
  interval_cases i <;> simp [lane]

/-- The value of a packed word (20_memory.md R76). -/
theorem toNat_packWord (b0 b1 b2 b3 : Byte) :
    (packWord b0 b1 b2 b3).toNat =
      b0.toNat + 256 * b1.toNat + 65536 * b2.toNat + 16777216 * b3.toNat := by
  have h1 := BitVec.toNat_append (x := b3 ++ b2 ++ b1) (y := b0)
  have h2 := BitVec.toNat_append (x := b3 ++ b2) (y := b1)
  have h3 := BitVec.toNat_append (x := b3) (y := b2)
  have e : ∀ (m n : Nat), n < 2 ^ 8 → m <<< 8 ||| n = 256 * m + n := fun m n h => by
    rw [← Nat.shiftLeft_add_eq_or_of_lt h, Nat.shiftLeft_eq]; omega
  rw [e _ _ b0.isLt] at h1
  rw [e _ _ b1.isLt] at h2
  rw [e _ _ b2.isLt] at h3
  have h : (packWord b0 b1 b2 b3).toNat = (b3 ++ b2 ++ b1 ++ b0).toNat := rfl
  omega

/-! ### Taking the next event -/

theorem step_of_inputs_nil {s : State} (h : s.inputs = []) : step s = .next (beginStep [] s) := by
  simp [step, fetch, h]

theorem step_of_decode_ok {s : State} {inp : Input} {rest : List Input} {i : Instr}
    (h : s.inputs = inp :: rest) (hd : decode (selectorsOf s) inp = .ok i) :
    step s = exec i (beginStep rest s) := by
  simp [step, fetch, h, hd]

theorem step_of_decode_error {s : State} {inp : Input} {rest : List Input} {e : DecodeError}
    (h : s.inputs = inp :: rest) (hd : decode (selectorsOf s) inp = .error e) :
    step s = .refused (.illFormedInput e) := by
  simp [step, fetch, h, hd]

/-! ### Logging, the event FIFO and the queues -/

theorem countDiscard_zero (s : State) : countDiscard 0 s = s := by
  simp [countDiscard]

theorem countDiscard_countDiscard (m n : Nat) (s : State) :
    countDiscard m (countDiscard n s) = countDiscard (n + m) s := by
  simp [countDiscard, BitVec.ofNat_add, BitVec.add_assoc]

/-- `push_evt` appends to a FIFO with room and else loses the record (42_decoders.md R200). -/
theorem pushEvt_cases (r : Record) (s : State) :
    (s.evt.length < 16 ∧ pushEvt r s = { s with evt := s.evt ++ [r] }) ∨
      (16 ≤ s.evt.length ∧ pushEvt r s = logCause .evtOvf s) := by
  unfold pushEvt
  by_cases h : s.evt.length < Config.evtDepth
  · exact .inl ⟨h, if_pos h⟩
  · exact .inr ⟨Nat.le_of_not_lt h, if_neg h⟩

@[simp] theorem publish_nil (s : State) : publish [] s = s := rfl

@[simp] theorem publish_cons (r : Record) (rs : List Record) (s : State) :
    publish (r :: rs) s = publish rs (pushEvt r s) := rfl

/-- `push_evt` writes the event FIFO and the log, and nothing else. -/
theorem pushEvt_frame (r : Record) (s : State) :
    { pushEvt r s with evt := s.evt, log := s.log } = s := by
  rcases pushEvt_cases r s with ⟨_, h⟩ | ⟨_, h⟩
  · rw [h]
  · rw [h]; rfl

/-- Publishing writes the event FIFO and the log, and nothing else. -/
theorem publish_frame (rs : List Record) (s : State) :
    ∃ e l, publish rs s = { s with evt := e, log := l } := by
  induction rs generalizing s with
  | nil => exact ⟨s.evt, s.log, rfl⟩
  | cons r rs ih =>
    obtain ⟨e, l, h⟩ := ih (pushEvt r s)
    refine ⟨e, l, ?_⟩
    rw [publish_cons, h]
    rcases pushEvt_cases r s with ⟨_, h⟩ | ⟨_, h⟩
    · rw [h]
    · rw [h]; rfl

theorem txPairs_length (bs : List Byte) (last : Bool) : (txPairs bs last).length = bs.length := by
  induction bs with
  | nil => rfl
  | cons b bs ih => cases bs <;> simp_all [txPairs]

theorem txPairs_bytes (bs : List Byte) (last : Bool) : (txPairs bs last).map Prod.fst = bs := by
  induction bs with
  | nil => rfl
  | cons b bs ih => cases bs <;> simp_all [txPairs]

theorem txqFits_iff (q : List (Byte × Bool)) : txqFits q = true ↔ q.length ≤ 24 :=
  decide_eq_true_iff

/-- The internal transmit queue never holds more than 24 pairs (10_state.md R58). -/
theorem txqHold_length (n : Nat) (q : List (Byte × Bool)) : (txqHold n q).length ≤ 24 := by
  unfold txqHold
  split
  · exact (txqFits_iff q).1 ‹_›
  · exact List.length_take_le _ _

/-- A push that fits appends its pairs and uses no free value (43_sequencer.md R223). -/
theorem txqPush_of_fits {bs : List Byte} {s : State} (last : Bool)
    (h : s.tx.txq.length + bs.length ≤ 24) :
    txqPush bs last s = { s with tx := { s.tx with txq := s.tx.txq ++ txPairs bs last } } := by
  have hf : txqFits (s.tx.txq ++ txPairs bs last) = true :=
    (txqFits_iff _).2 (by simpa [txPairs_length] using h)
  simp [txqPush, txqHold, hf]

/-- A push that does not fit leaves some queue of at most 24 pairs, and changes nothing else of the
block (10_state.md R58; log 10). -/
theorem txqPush_of_not_fits {bs : List Byte} {s : State} (last : Bool)
    (h : 24 < s.tx.txq.length + bs.length) :
    ∃ q : List (Byte × Bool), q.length ≤ 24 ∧
      txqPush bs last s = { s with tx := { s.tx with txq := q }, drawn := s.drawn + 1 } := by
  have hf : txqFits (s.tx.txq ++ txPairs bs last) = false :=
    Bool.eq_false_iff.2 fun hq => by
      have := (txqFits_iff _).1 hq
      simp [txPairs_length] at this
      omega
  exact ⟨_, txqHold_length _ _, by simp only [txqPush, hf]; rfl⟩

/-! ### Decoded frames -/

/-- What a decoded frame logs is written to the log alone (42_decoders.md R204). -/
theorem logDecoded_frame (d : Decoded) (s : State) : ∃ l, logDecoded d s = { s with log := l } := by
  rcases d with ⟨hdr, c, p, o⟩
  cases c <;> cases p <;> cases o <;> exact ⟨_, rfl⟩

/-- `route` publishes in CONNECTED, completes a step in INIT_WAIT on the expected header, and else drops
the records (42_decoders.md R202). -/
theorem route_cases (hdr : Option (Byte × Byte)) (recs : List Record) (s : State) :
    (s.sess.seq = .connected ∧ route hdr recs s = publish recs s) ∨
      (s.sess.seq = .initWait ∧ hdr = some (expectedHeader s) ∧
        route hdr recs s = stepResponseMatched s) ∨
      (s.sess.seq ≠ .connected ∧ ¬(s.sess.seq = .initWait ∧ hdr = some (expectedHeader s)) ∧
        route hdr recs s = s) := by
  unfold route
  by_cases h1 : s.sess.seq = .connected
  · exact .inl ⟨h1, if_pos h1⟩
  · by_cases h2 : s.sess.seq = .initWait ∧ hdr = some (expectedHeader s)
    · exact .inr (.inl ⟨h2.1, h2.2, by rw [if_neg h1, if_pos h2]⟩)
    · exact .inr (.inr ⟨h1, h2, by rw [if_neg h1, if_neg h2]⟩)

/-! ### Receiving -/

/-- A received byte goes to the family of the live session, to an awaited response, or is discarded
(40_assembler.md R130). -/
theorem rxByte_cases (b : Byte) (last : Bool) (s : State) :
    (s.sess.seq.live = true ∧ s.sess.fam = .a ∧ rxByte b last s = asmAByte b s) ∨
      (s.sess.seq.live = true ∧ s.sess.fam = .b ∧ rxByte b last s = asmBByte b s) ∨
      (s.sess.seq = .connected ∧ s.sess.fam = .pcsc ∧ s.rx.pcBusy = true ∧
        rxByte b last s = pcscByte b last s) ∨
      rxByte b last s = countDiscard 1 s := by
  unfold rxByte
  split
  · exact .inl ⟨by simp_all, by simp_all, rfl⟩
  · split
    · exact .inr (.inl ⟨by simp_all, by simp_all, rfl⟩)
    · split
      · exact .inr (.inr (.inl ⟨by simp_all, by simp_all, by simp_all, rfl⟩))
      · exact .inr (.inr (.inr rfl))

@[simp] theorem rxBytes_nil (s : State) : rxBytes [] s = s := rfl

@[simp] theorem rxBytes_cons (b : Byte) (bs : List Byte) (s : State) :
    rxBytes (b :: bs) s = rxBytes bs (rxByte b false s) := rfl

theorem rxBytes_append (as bs : List Byte) (s : State) :
    rxBytes (as ++ bs) s = rxBytes bs (rxBytes as s) := by
  simp [rxBytes]

/-- At a frame boundary of a live session of its family a whole frame is counted and decoded by its
row. -/
theorem receiveFrame_boundary {fam : Family} {s : State} (row : List Byte → State → State)
    (f : List Byte) (hl : s.sess.seq.live = true) (hf : s.sess.fam = fam) (hp : s.rx.pend = []) :
    receiveFrame fam row f s = row f (countFrame s) := by
  simp [receiveFrame, hl, hf, hp]

/-- Elsewhere its bytes are received one by one. -/
theorem receiveFrame_otherwise {fam : Family} {s : State} (row : List Byte → State → State)
    (f : List Byte) (h : ¬(s.sess.seq.live = true ∧ s.sess.fam = fam ∧ s.rx.pend = [])) :
    receiveFrame fam row f s = rxBytes f s := by
  unfold receiveFrame
  exact if_neg h

/-! ### The sequencer -/

/-- A failed candidate either opens the next one or ends the attempt (43_sequencer.md R233). -/
theorem failCand_cases (cause : Cause) (step : BitVec 4) (s : State) :
    (s.sess.ci + 1 = s.sess.ncand ∧ (failCand cause step s).sess.seq = .failed ∧
        (failCand cause step s).ports = s.ports) ∨
      (s.sess.ci + 1 ≠ s.sess.ncand ∧ (failCand cause step s).sess.seq = .opening ∧
        (failCand cause step s).ports =
          { s.ports with openReq := some (s.sess.chan, candAt s (s.sess.ci + 1)) }) := by
  by_cases h : s.sess.ci + 1 = s.sess.ncand
  · exact .inl ⟨h, by simp only [failCand, if_pos h, setIrq_sess],
      by simp only [failCand, if_pos h, setIrq_ports]⟩
  · exact .inr ⟨h, by simp only [failCand, if_neg h, emitOpen_sess],
      by simp only [failCand, if_neg h, emitOpen_ports, candAt]⟩

/-- Teardown empties the buffers and queues, stops the timer and gives the handle back
(43_sequencer.md R230). -/
theorem teardown_eq (s : State) :
    teardown s =
      { s with
        rx := RxState.empty
        tx := TxState.empty
        sess := { s.sess with timer := 0#17, handleOpen := false }
        ports := { s.ports with closeReq := s.ports.closeReq || s.sess.handleOpen } } := by
  rcases s with ⟨r, ss, rx, tx, evt, eng, log, ports, inputs, drawn⟩
  rcases ss with ⟨seq, f, c, w, ca, nc, ci, k, tm, ho, cb, le⟩
  cases ho <;> simp [teardown, emitClose]

end Sys2Proof.Machine
end

