-- ==== Sys2Proof/Laws/PerInstr.lean ====
section
/-!
SUPPORT. The per-instruction family `EncodesInItsFormat`: the item of every operation has the format of
its row of opcode_table.json, and a length that 30_encoding.md R90 gives that format. One lemma for each
constructor of `Instr`.
-/

namespace Sys2Proof.Laws

/-- The format of an operation's row (30_encoding.md R90, opcode_table.json). -/
def formatOf : Instr → Format
  | .nop | .connect | .disconnect | .flushRx | .crcInit | .xorInit | .evtPop | .clrCounters
  | .txFlush | .reserved9 | .reservedA | .reservedB | .reservedC | .reservedD | .reservedE
  | .reservedF => .cmd
  | .rdId | .rdCtrl | .wrCtrl _ | .wrCmd _ | .rdStatus | .rdIrqStatus | .wrIrqStatus _ | .rdIrqEn
  | .wrIrqEn _ | .rdChannel | .wrChannel _ | .rdBaudCount | .wrBaudCount _ | .rdBaudOverride
  | .wrBaudOverride _ | .rdChosenBaud | .rdLastErr | .rdSeqTimeout | .wrSeqTimeout _ | .rdACmdSel
  | .wrACmdSel _ | .rdInitCount | .wrInitCount _ | .rdCrcValue | .wrCrcValue _ | .wrCrcData _
  | .rdXorValue | .wrXorValue _ | .wrXorData _ | .wrTxData _ | .rdTxLevel | .rdCntFrames
  | .rdCntCsumErr | .rdCntFrameErr | .rdCntProtoErr | .rdCntEvtOvf | .rdCntPartial
  | .rdCntDiscard | .rdLastProtoCode | .rdEvtLevel | .rdEvtHead | .rdEvtAux | .rdBaudCand _
  | .wrBaudCand _ _ | .rdInitScript _ _ | .wrInitScript _ _ _ | .rdEvtData _ | .rdWoRegister _
  | .wrRoRegister _ _ | .unlistedOffset _ _ _ | .busError _ => .bus
  | .rxByte _ _ | .txBeat | .openRsp _ _ | .tick | .cardPresent | .cardRemoved | .xferErr
  | .reset => .port
  | .aFrameError _ | .aStrictDrop _ | .aInventory _ | .aBuffer _ | .aAck _ => .frameA
  | .bCrcDrop _ | .bInventory _ | .bAck _ => .frameB
  | .pcscGetUid => .apduCommand
  | .pcscFrameError _ | .pcscNotags | .pcscTag _ | .pcscProtoError _ => .apduResponse

/-- The lengths of a format's items (30_encoding.md R90; the BUS and PORT items are log 2's). -/
def lengthFits : Format → Nat → Prop
  | .cmd, n => n = 4
  | .bus, n => n = 7
  | .port, n => 1 ≤ n ∧ n ≤ 3
  | .frameA, n => 3 ≤ n ∧ n ≤ 258
  | .frameB, n => 5 ≤ n ∧ n ≤ 256
  | .apduCommand, n => n = 5
  | .apduResponse, n => 1 ≤ n

/-- The operation's item has its row's format, and a length of that format. -/
def EncodesInItsFormat.Statement (i : Instr) : Prop :=
  (encode i).fmt = formatOf i ∧
    (i.wellFormed = true → lengthFits (formatOf i) (encode i).bytes.length)

/-- One family A frame has 3 to 258 bytes (30_encoding.md R94). -/
theorem isFrameA_length {f : List Byte} (h : Machine.isFrameA f = true) :
    3 ≤ f.length ∧ f.length ≤ 258 := by
  simp only [Machine.isFrameA, Machine.totalA, Bool.and_eq_true, beq_iff_eq] at h
  have := (Machine.byteAt f 1).isLt
  omega

/-- One family B frame has 5 to 256 bytes (30_encoding.md R99). -/
theorem isFrameB_length {f : List Byte} (h : Machine.isFrameB f = true) :
    5 ≤ f.length ∧ f.length ≤ 256 := by
  simp only [Machine.isFrameB, Machine.totalB, Bool.and_eq_true, beq_iff_eq, BitVec.ule,
    decide_eq_true_eq] at h
  have := (Machine.byteAt f 0).isLt
  have : Config.bLenMin.toNat = 4 := rfl
  omega

theorem EncodesInItsFormat.nop :
    EncodesInItsFormat.Statement .nop := ⟨rfl, fun _ => rfl⟩

theorem EncodesInItsFormat.connect :
    EncodesInItsFormat.Statement .connect := ⟨rfl, fun _ => rfl⟩

theorem EncodesInItsFormat.disconnect :
    EncodesInItsFormat.Statement .disconnect := ⟨rfl, fun _ => rfl⟩

theorem EncodesInItsFormat.flushRx :
    EncodesInItsFormat.Statement .flushRx := ⟨rfl, fun _ => rfl⟩

theorem EncodesInItsFormat.crcInit :
    EncodesInItsFormat.Statement .crcInit := ⟨rfl, fun _ => rfl⟩

theorem EncodesInItsFormat.xorInit :
    EncodesInItsFormat.Statement .xorInit := ⟨rfl, fun _ => rfl⟩

theorem EncodesInItsFormat.evtPop :
    EncodesInItsFormat.Statement .evtPop := ⟨rfl, fun _ => rfl⟩

theorem EncodesInItsFormat.clrCounters :
    EncodesInItsFormat.Statement .clrCounters := ⟨rfl, fun _ => rfl⟩

theorem EncodesInItsFormat.txFlush :
    EncodesInItsFormat.Statement .txFlush := ⟨rfl, fun _ => rfl⟩

theorem EncodesInItsFormat.reserved9 :
    EncodesInItsFormat.Statement .reserved9 := ⟨rfl, fun _ => rfl⟩

theorem EncodesInItsFormat.reservedA :
    EncodesInItsFormat.Statement .reservedA := ⟨rfl, fun _ => rfl⟩

theorem EncodesInItsFormat.reservedB :
    EncodesInItsFormat.Statement .reservedB := ⟨rfl, fun _ => rfl⟩

theorem EncodesInItsFormat.reservedC :
    EncodesInItsFormat.Statement .reservedC := ⟨rfl, fun _ => rfl⟩

theorem EncodesInItsFormat.reservedD :
    EncodesInItsFormat.Statement .reservedD := ⟨rfl, fun _ => rfl⟩

theorem EncodesInItsFormat.reservedE :
    EncodesInItsFormat.Statement .reservedE := ⟨rfl, fun _ => rfl⟩

theorem EncodesInItsFormat.reservedF :
    EncodesInItsFormat.Statement .reservedF := ⟨rfl, fun _ => rfl⟩

theorem EncodesInItsFormat.rdId :
    EncodesInItsFormat.Statement .rdId := ⟨rfl, fun _ => rfl⟩

theorem EncodesInItsFormat.rdCtrl :
    EncodesInItsFormat.Statement .rdCtrl := ⟨rfl, fun _ => rfl⟩

theorem EncodesInItsFormat.wrCtrl (v : Word) :
    EncodesInItsFormat.Statement (.wrCtrl v) := ⟨rfl, fun _ => rfl⟩

theorem EncodesInItsFormat.wrCmd (v : Word) :
    EncodesInItsFormat.Statement (.wrCmd v) := ⟨rfl, fun _ => rfl⟩

theorem EncodesInItsFormat.rdStatus :
    EncodesInItsFormat.Statement .rdStatus := ⟨rfl, fun _ => rfl⟩

theorem EncodesInItsFormat.rdIrqStatus :
    EncodesInItsFormat.Statement .rdIrqStatus := ⟨rfl, fun _ => rfl⟩

theorem EncodesInItsFormat.wrIrqStatus (v : Word) :
    EncodesInItsFormat.Statement (.wrIrqStatus v) := ⟨rfl, fun _ => rfl⟩

theorem EncodesInItsFormat.rdIrqEn :
    EncodesInItsFormat.Statement .rdIrqEn := ⟨rfl, fun _ => rfl⟩

theorem EncodesInItsFormat.wrIrqEn (v : Word) :
    EncodesInItsFormat.Statement (.wrIrqEn v) := ⟨rfl, fun _ => rfl⟩

theorem EncodesInItsFormat.rdChannel :
    EncodesInItsFormat.Statement .rdChannel := ⟨rfl, fun _ => rfl⟩

theorem EncodesInItsFormat.wrChannel (v : Word) :
    EncodesInItsFormat.Statement (.wrChannel v) := ⟨rfl, fun _ => rfl⟩

theorem EncodesInItsFormat.rdBaudCount :
    EncodesInItsFormat.Statement .rdBaudCount := ⟨rfl, fun _ => rfl⟩

theorem EncodesInItsFormat.wrBaudCount (v : Word) :
    EncodesInItsFormat.Statement (.wrBaudCount v) := ⟨rfl, fun _ => rfl⟩

theorem EncodesInItsFormat.rdBaudOverride :
    EncodesInItsFormat.Statement .rdBaudOverride := ⟨rfl, fun _ => rfl⟩

theorem EncodesInItsFormat.wrBaudOverride (v : Word) :
    EncodesInItsFormat.Statement (.wrBaudOverride v) := ⟨rfl, fun _ => rfl⟩

theorem EncodesInItsFormat.rdChosenBaud :
    EncodesInItsFormat.Statement .rdChosenBaud := ⟨rfl, fun _ => rfl⟩

theorem EncodesInItsFormat.rdLastErr :
    EncodesInItsFormat.Statement .rdLastErr := ⟨rfl, fun _ => rfl⟩

theorem EncodesInItsFormat.rdSeqTimeout :
    EncodesInItsFormat.Statement .rdSeqTimeout := ⟨rfl, fun _ => rfl⟩

theorem EncodesInItsFormat.wrSeqTimeout (v : Word) :
    EncodesInItsFormat.Statement (.wrSeqTimeout v) := ⟨rfl, fun _ => rfl⟩

theorem EncodesInItsFormat.rdACmdSel :
    EncodesInItsFormat.Statement .rdACmdSel := ⟨rfl, fun _ => rfl⟩

theorem EncodesInItsFormat.wrACmdSel (v : Word) :
    EncodesInItsFormat.Statement (.wrACmdSel v) := ⟨rfl, fun _ => rfl⟩

theorem EncodesInItsFormat.rdInitCount :
    EncodesInItsFormat.Statement .rdInitCount := ⟨rfl, fun _ => rfl⟩

theorem EncodesInItsFormat.wrInitCount (v : Word) :
    EncodesInItsFormat.Statement (.wrInitCount v) := ⟨rfl, fun _ => rfl⟩

theorem EncodesInItsFormat.rdCrcValue :
    EncodesInItsFormat.Statement .rdCrcValue := ⟨rfl, fun _ => rfl⟩

theorem EncodesInItsFormat.wrCrcValue (v : Word) :
    EncodesInItsFormat.Statement (.wrCrcValue v) := ⟨rfl, fun _ => rfl⟩

theorem EncodesInItsFormat.wrCrcData (v : Word) :
    EncodesInItsFormat.Statement (.wrCrcData v) := ⟨rfl, fun _ => rfl⟩

theorem EncodesInItsFormat.rdXorValue :
    EncodesInItsFormat.Statement .rdXorValue := ⟨rfl, fun _ => rfl⟩

theorem EncodesInItsFormat.wrXorValue (v : Word) :
    EncodesInItsFormat.Statement (.wrXorValue v) := ⟨rfl, fun _ => rfl⟩

theorem EncodesInItsFormat.wrXorData (v : Word) :
    EncodesInItsFormat.Statement (.wrXorData v) := ⟨rfl, fun _ => rfl⟩

theorem EncodesInItsFormat.wrTxData (v : Word) :
    EncodesInItsFormat.Statement (.wrTxData v) := ⟨rfl, fun _ => rfl⟩

theorem EncodesInItsFormat.rdTxLevel :
    EncodesInItsFormat.Statement .rdTxLevel := ⟨rfl, fun _ => rfl⟩

theorem EncodesInItsFormat.rdCntFrames :
    EncodesInItsFormat.Statement .rdCntFrames := ⟨rfl, fun _ => rfl⟩

theorem EncodesInItsFormat.rdCntCsumErr :
    EncodesInItsFormat.Statement .rdCntCsumErr := ⟨rfl, fun _ => rfl⟩

theorem EncodesInItsFormat.rdCntFrameErr :
    EncodesInItsFormat.Statement .rdCntFrameErr := ⟨rfl, fun _ => rfl⟩

theorem EncodesInItsFormat.rdCntProtoErr :
    EncodesInItsFormat.Statement .rdCntProtoErr := ⟨rfl, fun _ => rfl⟩

theorem EncodesInItsFormat.rdCntEvtOvf :
    EncodesInItsFormat.Statement .rdCntEvtOvf := ⟨rfl, fun _ => rfl⟩

theorem EncodesInItsFormat.rdCntPartial :
    EncodesInItsFormat.Statement .rdCntPartial := ⟨rfl, fun _ => rfl⟩

theorem EncodesInItsFormat.rdCntDiscard :
    EncodesInItsFormat.Statement .rdCntDiscard := ⟨rfl, fun _ => rfl⟩

theorem EncodesInItsFormat.rdLastProtoCode :
    EncodesInItsFormat.Statement .rdLastProtoCode := ⟨rfl, fun _ => rfl⟩

theorem EncodesInItsFormat.rdEvtLevel :
    EncodesInItsFormat.Statement .rdEvtLevel := ⟨rfl, fun _ => rfl⟩

theorem EncodesInItsFormat.rdEvtHead :
    EncodesInItsFormat.Statement .rdEvtHead := ⟨rfl, fun _ => rfl⟩

theorem EncodesInItsFormat.rdEvtAux :
    EncodesInItsFormat.Statement .rdEvtAux := ⟨rfl, fun _ => rfl⟩

theorem EncodesInItsFormat.rdBaudCand (n : BitVec 3) :
    EncodesInItsFormat.Statement (.rdBaudCand n) := ⟨rfl, fun _ => rfl⟩

theorem EncodesInItsFormat.wrBaudCand (n : BitVec 3) (v : Word) :
    EncodesInItsFormat.Statement (.wrBaudCand n v) := ⟨rfl, fun _ => rfl⟩

theorem EncodesInItsFormat.rdInitScript (k : BitVec 3) (w : BitVec 3) :
    EncodesInItsFormat.Statement (.rdInitScript k w) := ⟨rfl, fun _ => rfl⟩

theorem EncodesInItsFormat.wrInitScript (k : BitVec 3) (w : BitVec 3) (v : Word) :
    EncodesInItsFormat.Statement (.wrInitScript k w v) := ⟨rfl, fun _ => rfl⟩

theorem EncodesInItsFormat.rdEvtData (w : BitVec 6) :
    EncodesInItsFormat.Statement (.rdEvtData w) := ⟨rfl, fun _ => rfl⟩

theorem EncodesInItsFormat.rdWoRegister (r : WoReg) :
    EncodesInItsFormat.Statement (.rdWoRegister r) := ⟨rfl, fun _ => rfl⟩

theorem EncodesInItsFormat.wrRoRegister (r : RoReg) (v : Word) :
    EncodesInItsFormat.Statement (.wrRoRegister r v) := ⟨rfl, fun _ => rfl⟩

theorem EncodesInItsFormat.unlistedOffset (we : Bool) (off : Offset) (v : Word) :
    EncodesInItsFormat.Statement (.unlistedOffset we off v) := ⟨rfl, fun _ => rfl⟩

theorem EncodesInItsFormat.busError (acc : BusAccess) :
    EncodesInItsFormat.Statement (.busError acc) := ⟨rfl, fun _ => rfl⟩

theorem EncodesInItsFormat.rxByte (b : Byte) (last : Bool) :
    EncodesInItsFormat.Statement (.rxByte b last) := ⟨rfl, fun _ => ⟨by simp [encode], by simp [encode]⟩⟩

theorem EncodesInItsFormat.txBeat :
    EncodesInItsFormat.Statement .txBeat := ⟨rfl, fun _ => by simp [formatOf, lengthFits, encode]⟩

theorem EncodesInItsFormat.openRsp (ok : Bool) (err : BitVec 2) :
    EncodesInItsFormat.Statement (.openRsp ok err) := ⟨rfl, fun _ => ⟨by simp [encode], by simp [encode]⟩⟩

theorem EncodesInItsFormat.tick :
    EncodesInItsFormat.Statement .tick := ⟨rfl, fun _ => by simp [formatOf, lengthFits, encode]⟩

theorem EncodesInItsFormat.cardPresent :
    EncodesInItsFormat.Statement .cardPresent := ⟨rfl, fun _ => by simp [formatOf, lengthFits, encode]⟩

theorem EncodesInItsFormat.cardRemoved :
    EncodesInItsFormat.Statement .cardRemoved := ⟨rfl, fun _ => by simp [formatOf, lengthFits, encode]⟩

theorem EncodesInItsFormat.xferErr :
    EncodesInItsFormat.Statement .xferErr := ⟨rfl, fun _ => by simp [formatOf, lengthFits, encode]⟩

theorem EncodesInItsFormat.reset :
    EncodesInItsFormat.Statement .reset := ⟨rfl, fun _ => by simp [formatOf, lengthFits, encode]⟩

theorem EncodesInItsFormat.aFrameError (f : List Byte) :
    EncodesInItsFormat.Statement (.aFrameError f) := by
  refine ⟨rfl, fun h => ?_⟩
  simp only [Instr.wellFormed, Bool.and_eq_true] at h
  exact isFrameA_length h.1

theorem EncodesInItsFormat.aStrictDrop (f : List Byte) :
    EncodesInItsFormat.Statement (.aStrictDrop f) := by
  refine ⟨rfl, fun h => ?_⟩
  simp only [Instr.wellFormed, Bool.and_eq_true] at h
  exact isFrameA_length h.1.1

theorem EncodesInItsFormat.aInventory (f : List Byte) :
    EncodesInItsFormat.Statement (.aInventory f) := by
  refine ⟨rfl, fun h => ?_⟩
  simp only [Instr.wellFormed, Bool.and_eq_true] at h
  exact isFrameA_length h.1

theorem EncodesInItsFormat.aBuffer (f : List Byte) :
    EncodesInItsFormat.Statement (.aBuffer f) := by
  refine ⟨rfl, fun h => ?_⟩
  simp only [Instr.wellFormed, Bool.and_eq_true] at h
  exact isFrameA_length h.1

theorem EncodesInItsFormat.aAck (f : List Byte) :
    EncodesInItsFormat.Statement (.aAck f) := by
  refine ⟨rfl, fun h => ?_⟩
  simp only [Instr.wellFormed, Bool.and_eq_true] at h
  exact isFrameA_length h.1

theorem EncodesInItsFormat.bCrcDrop (f : List Byte) :
    EncodesInItsFormat.Statement (.bCrcDrop f) := by
  refine ⟨rfl, fun h => ?_⟩
  simp only [Instr.wellFormed, Bool.and_eq_true] at h
  exact isFrameB_length h.1

theorem EncodesInItsFormat.bInventory (f : List Byte) :
    EncodesInItsFormat.Statement (.bInventory f) := by
  refine ⟨rfl, fun h => ?_⟩
  simp only [Instr.wellFormed, Bool.and_eq_true] at h
  exact isFrameB_length h.1

theorem EncodesInItsFormat.bAck (f : List Byte) :
    EncodesInItsFormat.Statement (.bAck f) := by
  refine ⟨rfl, fun h => ?_⟩
  simp only [Instr.wellFormed, Bool.and_eq_true] at h
  exact isFrameB_length h.1

theorem EncodesInItsFormat.pcscGetUid :
    EncodesInItsFormat.Statement .pcscGetUid := ⟨rfl, fun _ => rfl⟩

theorem EncodesInItsFormat.pcscFrameError (r : List Byte) :
    EncodesInItsFormat.Statement (.pcscFrameError r) := by
  refine ⟨rfl, fun h => ?_⟩
  simp only [Instr.wellFormed, Bool.or_eq_true, beq_iff_eq, decide_eq_true_eq] at h
  show 1 ≤ r.length
  omega

theorem EncodesInItsFormat.pcscNotags :
    EncodesInItsFormat.Statement .pcscNotags := ⟨rfl, fun _ => by simp [formatOf, lengthFits, encode]⟩

theorem EncodesInItsFormat.pcscTag (uid : List Byte) :
    EncodesInItsFormat.Statement (.pcscTag uid) := ⟨rfl, fun _ => by simp [formatOf, lengthFits, encode]⟩

theorem EncodesInItsFormat.pcscProtoError (r : List Byte) :
    EncodesInItsFormat.Statement (.pcscProtoError r) := by
  refine ⟨rfl, fun h => ?_⟩
  simp only [Instr.wellFormed, Bool.and_eq_true, decide_eq_true_eq] at h
  show 1 ≤ r.length
  omega

end Sys2Proof.Laws
end

