-- ==== Sys2Proof/Tests/Slice0.lean ====
section
/-!
SUPPORT. The model's own tests, each expected value taken from a rule's example or worked by hand from
the rule it names: the well-formedness smoke test, a decoded word for every row of the opcode table,
one or two steps for each operation, and for every statement with hypotheses a witness that meets them.
-/

namespace Sys2Proof.Tests

open Sys2Proof Sys2Proof.Machine

/-! ### Small states -/

/-- A state after reset with A_CMD_SEL = 0x9089, the setting 42_decoders.md's examples assume. -/
def base : State :=
  { State.reset with regs := { HostRegs.reset with aInv := 0x89#8, aBuf := 0x90#8 } }

/-- A session of a family in a state: candidate 0 of [9600, 57600] on channel 3. -/
def session (fam : Family) (seq : SeqState) : State :=
  { base with sess := { Session.reset with
      seq := seq, fam := fam, chan := 3#8, cand := [9600#32, 57600#32], ncand := 2#4,
      handleOpen := seq.live } }

/-- A PC-SC session whose APDU is sent and whose response is awaited. -/
def awaiting : State :=
  let s := session .pcsc .connected
  { s with rx := { s.rx with pcBusy := true } }

/-- Script entry 0 of 43_sequencer.md R228's example, `A0 03 01 73 00 71` expecting ADDR 0x01 and CMD
0x73, with a delay. -/
def script (delay : BitVec 16) : Vector ScriptEntry 8 :=
  (Vector.replicate 8 ScriptEntry.zero).set 0
    ⟨6#5, 0x01#8, 0x73#8, delay, (Vector.replicate 6 0#32).set 0 0x730103A0#32 |>.set 1 0x00007100#32⟩

/-- A session in a state of init step 0, of that script, one entry long. -/
def inScript (fam : Family) (seq : SeqState) : State :=
  let s := session fam seq
  { s with
    regs := { s.regs with initCount := 1#4, script := script 50#16 }
    sess := { s.sess with waitResp := true } }

/-- The state after an operation, if it answers one. -/
def after (i : Instr) (s : State) : Option State :=
  match exec i s with
  | .next t => some t
  | .fault _ => none
  | .refused _ => none

/-- What an offset reads after an operation. -/
def readAfter (i : Instr) (off : Offset) (s : State) : Option Word :=
  (after i s).map (regRead off)

/-- Identifier ID1 of 42_decoders.md. -/
def id1 : List Byte :=
  [0xE2#8, 0x00#8, 0x68#8, 0x94#8, 0x00#8, 0x00#8, 0x40#8, 0x12#8, 0x34#8, 0x56#8, 0x78#8, 0x9A#8]

/-! ### Well-formedness: each check refuses an ill-formed term -/

theorem test_wellFormed_unlisted :
    (Instr.unlistedOffset true 0x004#12 0#32).wellFormed = false ∧
      (Instr.unlistedOffset false 0x07D#12 0#32).wellFormed = false ∧
      (Instr.unlistedOffset false 0x07C#12 0#32).wellFormed = true := by decide

theorem test_wellFormed_busError :
    (Instr.busError ⟨true, 0#2, 0x004#12, 0#32⟩).wellFormed = false ∧
      (Instr.busError ⟨true, 0#2, 0x006#12, 0#32⟩).wellFormed = true ∧
      (Instr.busError ⟨false, 1#2, 0x004#12, 0#32⟩).wellFormed = true := by decide

theorem test_wellFormed_frames_of_family_A :
    (Instr.aFrameError [0xA0#8, 2#8, 1#8, 0x72#8, 0x71#8]).wellFormed = false ∧
      (Instr.aFrameError [0xA0#8, 0#8]).wellFormed = false ∧
      (Instr.aStrictDrop [0xA0#8, 2#8, 1#8, 0x72#8, 0x71#8]).wellFormed = false ∧
      (Instr.aStrictDrop [0xA0#8, 0#8, 1#8]).wellFormed = false ∧
      (Instr.aInventory [0xA0#8, 0#8, 0#8]).wellFormed = false ∧
      (Instr.aBuffer [0xA1#8, 2#8, 1#8, 0x90#8, 0#8]).wellFormed = false ∧
      (Instr.aAck [0xA0#8, 2#8, 1#8, 0x72#8, 0x71#8, 0#8]).wellFormed = false := by decide

theorem test_wellFormed_frames_of_family_B :
    (Instr.bCrcDrop [4#8, 0#8, 1#8, 0xDB#8, 0x4B#8]).wellFormed = false ∧
      (Instr.bInventory [5#8, 0#8, 1#8, 0xFB#8, 0xF2#8, 0x3C#8]).wellFormed = false ∧
      (Instr.bInventory [5#8, 0#8, 0x21#8, 0#8, 0x9D#8, 0x57#8]).wellFormed = false ∧
      (Instr.bAck [5#8, 0#8, 1#8, 0xFB#8, 0xF2#8, 0x3D#8]).wellFormed = false ∧
      (Instr.bAck [3#8, 0#8, 0#8, 0#8]).wellFormed = false := by decide +kernel

theorem test_wellFormed_responses :
    (Instr.pcscFrameError [0x90#8, 0x00#8]).wellFormed = false ∧
      (Instr.pcscFrameError []).wellFormed = false ∧
      (Instr.pcscTag []).wellFormed = false ∧
      (Instr.pcscTag (List.replicate 257 0#8)).wellFormed = false ∧
      (Instr.pcscProtoError [0x04#8, 0x90#8, 0x00#8]).wellFormed = false ∧
      (Instr.pcscProtoError [0x6A#8]).wellFormed = false := by decide +kernel

theorem test_selected_needs_its_register :
    (Instr.aInventory [0xA0#8, 2#8, 1#8, 0x72#8, 0x71#8]).selected ⟨false, 0x89#8, 0x90#8⟩ = false ∧
      (Instr.aInventory [0xA0#8, 2#8, 1#8, 0x72#8, 0x71#8]).selected ⟨false, 0x72#8, 0x72#8⟩ = true ∧
      (Instr.aBuffer [0xA0#8, 2#8, 1#8, 0x72#8, 0x71#8]).selected ⟨false, 0x72#8, 0x72#8⟩ = false :=
  by decide

/-! ### Decoding: every row's word, written from the encoding tables -/

/-- What the decoder reads from an item, under INV = 0x89 and BUF = 0x90. -/
def read (fmt : Format) (bs : List Byte) : Option Instr :=
  match decode ⟨false, 0x89#8, 0x90#8⟩ ⟨fmt, bs⟩ with
  | .ok i => some i
  | .error _ => none

/-- A BUS item from its access word (W = 1 at bit 12) and data word (opcode_table.json; log 2). -/
def bus (acc : BitVec 16) (v : Word) : List Byte :=
  [acc.extractLsb' 0 8, acc.extractLsb' 8 8, v.extractLsb' 0 8, v.extractLsb' 8 8,
    v.extractLsb' 16 8, v.extractLsb' 24 8, 0#8]

/-- The CMD rows (30_encoding.md R92); bits [31:4] are ignored. -/
theorem test_decode_cmd_rows :
    ([0x00#8, 0x01#8, 0x02#8, 0x03#8, 0x04#8, 0x05#8, 0x06#8, 0x07#8, 0xF8#8, 0x09#8, 0x0A#8, 0x0B#8,
        0x0C#8, 0x0D#8, 0x0E#8, 0x0F#8].map fun b => read .cmd [b, 0#8, 0xFF#8, 0#8]) =
      [.nop, .connect, .disconnect, .flushRx, .crcInit, .xorInit, .evtPop, .clrCounters, .txFlush,
        .reserved9, .reservedA, .reservedB, .reservedC, .reservedD, .reservedE, .reservedF].map some :=
  by decide

/-- The BUS read rows at the offsets of 10_state.md R23. -/
theorem test_decode_bus_reads :
    ([0x0000#16, 0x0004#16, 0x000C#16, 0x0010#16, 0x0014#16, 0x0018#16, 0x001C#16, 0x0020#16,
        0x0024#16, 0x0028#16, 0x002C#16, 0x0030#16, 0x0034#16, 0x0038#16, 0x0040#16,
        0x004C#16].map fun a => read .bus (bus a 0#32)) =
      [.rdId, .rdCtrl, .rdStatus, .rdIrqStatus, .rdIrqEn, .rdChannel, .rdBaudCount, .rdBaudOverride,
        .rdChosenBaud, .rdLastErr, .rdSeqTimeout, .rdACmdSel, .rdInitCount, .rdCrcValue, .rdXorValue,
        .rdTxLevel].map some := by decide

theorem test_decode_bus_reads_of_counters_and_records :
    ([0x0050#16, 0x0054#16, 0x0058#16, 0x005C#16, 0x0060#16, 0x0064#16, 0x0068#16, 0x006C#16,
        0x0070#16, 0x0074#16, 0x0078#16, 0x0094#16, 0x01B8#16,
        0x04FC#16].map fun a => read .bus (bus a 0#32)) =
      [.rdCntFrames, .rdCntCsumErr, .rdCntFrameErr, .rdCntProtoErr, .rdCntEvtOvf, .rdCntPartial,
        .rdCntDiscard, .rdLastProtoCode, .rdEvtLevel, .rdEvtHead, .rdEvtAux, .rdBaudCand 5#3,
        .rdInitScript 5#3 6#3, .rdEvtData 63#6].map some := by decide

/-- The BUS write rows. -/
theorem test_decode_bus_writes :
    ([0x1004#16, 0x1008#16, 0x1010#16, 0x1014#16, 0x1018#16, 0x101C#16, 0x1020#16, 0x102C#16,
        0x1030#16, 0x1034#16, 0x1038#16, 0x103C#16, 0x1040#16, 0x1044#16, 0x1048#16, 0x1080#16,
        0x1108#16].map fun a => read .bus (bus a 0x12345678#32)) =
      [.wrCtrl, .wrCmd, .wrIrqStatus, .wrIrqEn, .wrChannel, .wrBaudCount, .wrBaudOverride,
        .wrSeqTimeout, .wrACmdSel, .wrInitCount, .wrCrcValue, .wrCrcData, .wrXorValue, .wrXorData,
        .wrTxData, .wrBaudCand 0#3, .wrInitScript 0#3 2#3].map
          fun (i : Word → Instr) => some (i 0x12345678#32) := by decide

/-- The rows for an access against the access code, an unlisted offset and a refused access. -/
theorem test_decode_bus_other_rows :
    read .bus (bus 0x0048#16 0#32) = some (.rdWoRegister .txData) ∧
      read .bus (bus 0x1404#16 7#32) = some (.wrRoRegister (.evtData 1#6) 7#32) ∧
      read .bus (bus 0x0200#16 0#32) = some (.unlistedOffset false 0x200#12 0#32) ∧
      read .bus (bus 0x1FFC#16 9#32) = some (.unlistedOffset true 0xFFC#12 9#32) ∧
      read .bus (bus 0x0001#16 0#32) = some (.busError ⟨false, 0#2, 0x001#12, 0#32⟩) ∧
      read .bus [0x04#8, 0x10#8, 0#8, 0#8, 0#8, 0#8, 2#8] =
        some (.busError ⟨true, 2#2, 0x004#12, 0#32⟩) := by decide

/-- The PORT rows (30_encoding.md R105), numbered in its order (log 2). -/
theorem test_decode_port_rows :
    ([[0#8, 0x55#8, 0#8], [1#8], [2#8, 1#8, 0#8], [3#8], [4#8], [5#8], [6#8], [7#8]].map
        fun bs => read .port bs) =
      [.rxByte 0x55#8 false, .txBeat, .openRsp true 0#2, .tick, .cardPresent, .cardRemoved, .xferErr,
        .reset].map some := by decide

/-- The FRAME_A rows, by the examples of 42_decoders.md R180 to R186. -/
theorem test_decode_frameA_rows :
    ([[0xA0#8, 1#8, 1#8, 0#8], [0xA0#8, 4#8, 1#8, 0x89#8, 0#8, 0#8, 0x8C#8],
        [0xA0#8, 4#8, 1#8, 0x90#8, 0#8, 2#8, 0x97#8], [0xA0#8, 3#8, 1#8, 0x72#8, 0x10#8, 0x60#8]].map
        fun bs => read .frameA bs) =
      [.aFrameError [0xA0#8, 1#8, 1#8, 0#8], .aInventory [0xA0#8, 4#8, 1#8, 0x89#8, 0#8, 0#8, 0x8C#8],
        .aBuffer [0xA0#8, 4#8, 1#8, 0x90#8, 0#8, 2#8, 0x97#8],
        .aAck [0xA0#8, 3#8, 1#8, 0x72#8, 0x10#8, 0x60#8]].map some := by decide

theorem test_decode_frameA_strict :
    decode ⟨true, 0x89#8, 0x90#8⟩ ⟨.frameA, [0xA0#8, 3#8, 1#8, 0x72#8, 0x10#8, 0x61#8]⟩ =
      .ok (.aStrictDrop [0xA0#8, 3#8, 1#8, 0x72#8, 0x10#8, 0x61#8]) := by decide

/-- The FRAME_B rows, by the examples of 42_decoders.md R190 to R194. -/
theorem test_decode_frameB_rows :
    ([[5#8, 0#8, 1#8, 0xFB#8, 0xF2#8, 0xC2#8], [5#8, 0#8, 1#8, 0xFB#8, 0xF2#8, 0x3D#8],
        [5#8, 0#8, 0x21#8, 0#8, 0x9D#8, 0x57#8]].map fun bs => read .frameB bs) =
      [.bCrcDrop [5#8, 0#8, 1#8, 0xFB#8, 0xF2#8, 0xC2#8],
        .bInventory [5#8, 0#8, 1#8, 0xFB#8, 0xF2#8, 0x3D#8],
        .bAck [5#8, 0#8, 0x21#8, 0#8, 0x9D#8, 0x57#8]].map some := by decide +kernel

/-- The APDU rows, by the examples of 42_decoders.md R196 and R197. -/
theorem test_decode_apdu_rows :
    read .apduCommand [0xFF#8, 0xCA#8, 0#8, 0#8, 0#8] = some .pcscGetUid ∧
      ([[0x90#8], [0x90#8, 0x00#8], [0x04#8, 0xA1#8, 0xB2#8, 0xC3#8, 0x90#8, 0x00#8],
          [0x11#8, 0x22#8, 0x63#8, 0x00#8]].map fun bs => read .apduResponse bs) =
        [.pcscFrameError [0x90#8], .pcscNotags, .pcscTag [0x04#8, 0xA1#8, 0xB2#8, 0xC3#8],
          .pcscProtoError [0x11#8, 0x22#8, 0x63#8, 0x00#8]].map some := by decide

/-- Items that encode no operation are rejected by name (log 2). -/
theorem test_decode_rejects :
    decode resetSelectors ⟨.cmd, [1#8]⟩ = .error .cmdNotOneWord ∧
      decode resetSelectors ⟨.bus, [0#8, 0#8]⟩ = .error .busNotOneAccess ∧
      decode resetSelectors ⟨.port, [8#8]⟩ = .error .noSuchStrobe ∧
      decode resetSelectors ⟨.frameA, [0xA0#8, 0#8]⟩ = .error .notOneFrameA ∧
      decode resetSelectors ⟨.frameB, [3#8, 0#8, 0#8, 0#8]⟩ = .error .notOneFrameB ∧
      decode resetSelectors ⟨.apduCommand, [0xFF#8]⟩ = .error .notGetUid ∧
      decode resetSelectors ⟨.apduResponse, []⟩ = .error .emptyResponse := by decide

/-- The opcode table's words (log 22): OP 0x4, `(W << 12) | 0x03C` with data 0x05 above it, and the
first byte of the FRAME_A rows. -/
theorem test_decodeTableWord :
    decodeTableWord 4 0x4 = some .crcInit ∧ decodeTableWord 16 0x103C = some (.wrCrcData 0#32) ∧
      decodeTableWord 48 0x5103C = some (.wrCrcData 5#32) ∧ decodeTableWord 16 0x000C = some .rdStatus ∧
      decodeTableWord 8 0xA0 = some (.aFrameError [0xA0#8, 0#8, 0#8]) := by decide

/-! ### Steps of the host commands -/

/-- 44_host_ops.md R260. -/
theorem test_nop : after .nop base = some base := by decide

/-- 43_sequencer.md R227's example: channel 3, [9600, 57600], CTRL 0x10 gives open(3, 9600) and STATUS
0x8001. -/
theorem test_connect :
    (after .connect { base with regs := { base.regs with
        channel := 3#8, baudCount := 2#4, baudCand := #v[9600, 57600, 0, 0, 0, 0, 0, 0] } }).map
        (fun t => (t.ports.openReq, regRead 0x00C#12 t)) =
      some (some (3#8, 9600#32), 0x8001#32) := by decide

/-- R227's example with an empty list: STATUS 0x6, LAST_ERR 0x5, CONN_FAILED. -/
theorem test_connect_empty_list :
    (after .connect base).map
        (fun t => (regRead 0x00C#12 t, regRead 0x028#12 t, regRead 0x010#12 t)) =
      some (0x6#32, 0x5#32, 0x4#32) := by decide

/-- 43_sequencer.md R231: in OPENING, STATUS 0x7 and no close. -/
theorem test_disconnect_opening :
    (after .disconnect (session .a .opening)).map (fun t => (regRead 0x00C#12 t, t.ports.closeReq)) =
      some (0x7#32, false) := by decide

/-- R231: from CONNECTED the handle is closed and STATUS is 0. -/
theorem test_disconnect_connected :
    (after .disconnect (session .a .connected)).map (fun t => (regRead 0x00C#12 t, t.ports.closeReq)) =
      some (0x0#32, true) := by decide

/-- 44_host_ops.md R262's example: PEND_LEVEL 2 becomes 0. -/
theorem test_flushRx :
    (let s := session .a .connected
     readAfter .flushRx 0x00C#12 { s with rx := { s.rx with pend := [0xA0#8, 4#8] } }) =
      some 0x0000000D#32 := by decide

/-- 41_checksum_crc.md R164's example. -/
theorem test_crcInit :
    readAfter .crcInit 0x038#12 { base with eng := ⟨0x1234#16, 0x60#8⟩ } = some 0xFFFF#32 := by decide

/-- 41_checksum_crc.md R173's example. -/
theorem test_xorInit :
    readAfter .xorInit 0x040#12 { base with eng := ⟨0x1234#16, 0x60#8⟩ } = some 0#32 := by decide

/-- 44_host_ops.md R264's example: two records, then the second one. -/
theorem test_evtPop :
    (after .evtPop { base with evt := [recordPcsc .noTags 0#16 [], recordPcsc .tag 0#16 [7#8]] }).map
        (fun t => (regRead 0x070#12 t, regRead 0x074#12 t)) = some (1#32, 0x00010021#32) := by decide

/-- R264: an empty FIFO stays empty. -/
theorem test_evtPop_empty : after .evtPop base = some base := by decide

/-- 44_host_ops.md R263's example; IRQ_STATUS is not changed. -/
theorem test_clrCounters :
    (after .clrCounters { base with log := ⟨0x3FF#10, 1, 2, 3, 4, 5, 6, 5, 0xFB#16⟩ }).map
        (fun t => (t.log, regRead 0x010#12 t)) =
      some (⟨0x3FF#10, 0, 0, 0, 0, 0, 0, 0, 0⟩, 0x7FE#32) := by decide

/-- 44_host_ops.md R265's example; the internal queue stays. -/
theorem test_txFlush :
    (after .txFlush { base with tx := ⟨[(1#8, true)], [1#8, 2#8, 3#8]⟩ }).map (fun t => t.tx) =
      some ⟨[(1#8, true)], []⟩ := by decide

/-- 44_host_ops.md R261: BAD_CMD is bit 7. -/
theorem test_reserved_commands :
    ∀ i ∈ [Instr.reserved9, .reservedA, .reservedB, .reservedC, .reservedD, .reservedE, .reservedF],
      readAfter i 0x010#12 base = some 0x80#32 := by decide

/-! ### Steps of the bus rows -/

/-- 44_host_ops.md R269's example and 70_reset_and_hazards.md R340's. -/
theorem test_reads_after_reset :
    ([Instr.rdId, .rdCtrl, .rdStatus, .rdIrqStatus, .rdSeqTimeout, .rdCrcValue, .rdACmdSel,
        .rdEvtHead, .rdWoRegister .cmd, .unlistedOffset false 0x07C#12 5#32].map
        fun i => (after i base).bind fun t => t.ports.busRdata) =
      [0x43524331#32, 0x10#32, 0#32, 0#32, 0x3E8#32, 0xFFFF#32, 0x9089#32, 0#32, 0#32, 0#32].map some :=
  by decide

/-- 43_sequencer.md R243's last row: STATUS 0x044D. -/
theorem test_rdStatus :
    (let s := session .a .connected
     (after .rdStatus { s with sess := { s.sess with ci := 1#4, k := 1#4 } }).bind
       fun t => t.ports.busRdata) = some 0x044D#32 := by decide

/-- 44_host_ops.md R271's example: EVT_HEAD, and EVT_DATA[0] and [1] in little-endian lanes. -/
theorem test_reads_of_a_record :
    ([Instr.rdEvtHead, .rdEvtAux, .rdEvtData 0#6, .rdEvtData 1#6].map fun i =>
        (after i { base with
          evt := [⟨.tag, .a, false, 0x89#8, 1#8, 0#16, [0xE2#8, 0#8, 0x12#8, 0x34#8, 0x56#8]⟩] }).bind
            fun t => t.ports.busRdata) =
      [0x00058901#32, 0x00010000#32, 0x341200E2#32, 0x00000056#32].map some := by decide

/-- 44_host_ops.md R267: reserved bits are dropped, and `WR BAUD_COUNT, 0xF` stores 8. -/
theorem test_register_writes :
    ([Instr.wrCtrl 0xFFFFFFFF#32, .wrIrqEn 0xFFFFFFFF#32, .wrChannel 0xFFFFFFFF#32, .wrBaudCount 0xF#32,
        .wrBaudOverride 0xFFFFFFFF#32, .wrSeqTimeout 0xFFFFFFFF#32, .wrACmdSel 0xFFFFFFFF#32,
        .wrInitCount 0xF#32, .wrCrcValue 0xABCD0000#32, .wrXorValue 0x1FF#32,
        .wrBaudCand 7#3 0x12345678#32, .wrInitScript 7#3 0#3 0xFFFFFFFF#32].zip
        [0x004#12, 0x014#12, 0x018#12, 0x01C#12, 0x020#12, 0x02C#12, 0x030#12, 0x034#12, 0x038#12,
          0x040#12, 0x09C#12, 0x1E0#12]).map (fun p => readAfter p.1 p.2 base) =
      [0x1F#32, 0x7FF#32, 0xFF#32, 8#32, 0xFFFFFFFF#32, 0xFFFF#32, 0xFFFF#32, 8#32, 0#32, 0xFF#32,
        0x12345678#32, 0x00FFFF18#32].map some := by decide

/-- 44_host_ops.md R267: `WR INIT_COUNT, 2` in OPENING changes nothing. -/
theorem test_locked_write :
    after (.wrInitCount 2#32) (session .a .opening) = some (session .a .opening) ∧
      after (.wrInitScript 0#3 1#3 9#32) (session .a .initWait) = some (session .a .initWait) := by decide

/-- 44_host_ops.md R268's example: 0x43 becomes 0x1. -/
theorem test_wrIrqStatus :
    readAfter (.wrIrqStatus 0xFFFFFFFF#32) 0x010#12
      { base with log := { base.log with irq := 0x021#10 }, evt := [recordPcsc .noTags 0#16 []] } =
      some 0x1#32 := by decide

/-- 41_checksum_crc.md R163's example, and R165's. -/
theorem test_wrCrcData :
    readAfter (.wrCrcData 0x00#32) 0x038#12 base = some 0x0F87#32 ∧
      readAfter (.wrCrcData 0x01#32) 0x038#12 { base with eng := ⟨0#16, 0#8⟩ } = some 0x1189#32 := by
  decide

/-- 41_checksum_crc.md R172: bits [31:8] are ignored. -/
theorem test_wrXorData :
    readAfter (.wrXorData 0xFFFFFF10#32) 0x040#12 { base with eng := ⟨0#16, 0x70#8⟩ } = some 0x60#32 :=
  by decide

/-- 44_host_ops.md R266's example: a PC-SC session refuses the byte with TX_OVF. -/
theorem test_wrTxData_pcsc :
    (after (.wrTxData 0x55#32) (session .pcsc .connected)).map
        (fun t => (regRead 0x04C#12 t, regRead 0x010#12 t)) = some (0#32, 0x100#32) := by decide

/-- R266: the 64th byte is queued, the 65th is not. -/
theorem test_wrTxData_full :
    readAfter (.wrTxData 1#32) 0x04C#12 { base with tx := ⟨[], List.replicate 63 0#8⟩ } = some 64#32 ∧
      readAfter (.wrTxData 1#32) 0x04C#12 { base with tx := ⟨[], List.replicate 64 0#8⟩ } =
        some 64#32 := by decide

/-- 44_host_ops.md R260: `WR CMD, 0x00000010` is a NOP; R261: `WR CMD, 0xF` sets BAD_CMD. -/
theorem test_wrCmd :
    after (.wrCmd 0x10#32) base = some base ∧ readAfter (.wrCmd 0xF#32) 0x010#12 base = some 0x80#32 := by
  decide

/-- 10_state.md R64 and 20_memory.md R74: ignored writes. -/
theorem test_ignored_writes :
    after (.wrRoRegister .status 0xFFFFFFFF#32) base = some base ∧
      after (.unlistedOffset true 0x500#12 0xFFFFFFFF#32) base = some base := by decide

/-- 20_memory.md R71: `bus_err` = 1 and `bus_rdata` = 0. -/
theorem test_busError :
    after (.busError ⟨true, 0#2, 0x006#12, 0xFF#32⟩) base =
      some { base with ports := ⟨true, some 0#32, none, false, none⟩ } := by decide

/-! ### Steps of the port rows -/

/-- 40_assembler.md R130's example. -/
theorem test_rxByte_idle :
    after (.rxByte 0x11#8 false) base =
      some { base with log := { base.log with discard := 1#32 } } := by decide

/-- 40_assembler.md R138's example: the byte that completes the Ack. -/
theorem test_rxByte_completes_a_frame :
    (let s := session .a .connected
     (after (.rxByte 0x60#8 false)
        { s with rx := { s.rx with pend := [0xA0#8, 3#8, 1#8, 0x72#8, 0x10#8] } }).map
        fun t => (regRead 0x050#12 t, regRead 0x074#12 t, t.rx.pend)) =
      some (1#32, 0x00007203#32, []) := by decide

/-- 43_sequencer.md R224's example: the sixth beat moves INIT_TX to INIT_WAIT. -/
theorem test_txBeat_last :
    (let s := inScript .a .initTx
     (after .txBeat { s with tx := ⟨[(0x71#8, true)], [9#8]⟩ }).map
        fun t => (t.ports.txBeat, t.sess.seq, t.sess.timer, t.tx.htx)) =
      some (some (0x71#8, true), .initWait, 1001#17, [9#8]) := by decide

/-- 43_sequencer.md R235's example: OPEN_RSP err=2 gives open(3, 57600), LAST_ERR 0x2, STATUS 0x8041. -/
theorem test_openRsp_err :
    (after (.openRsp false 2#2) (session .a .opening)).map
        (fun t => (t.ports.openReq, regRead 0x028#12 t, regRead 0x00C#12 t)) =
      some (some (3#8, 57600#32), 0x2#32, 0x8041#32) := by decide

/-- R235: with a script, OPEN_RSP ok starts step 0 in INIT_TX with its six bytes queued. -/
theorem test_openRsp_ok :
    (after (.openRsp true 0#2) (inScript .a .opening)).map (fun t => (regRead 0x00C#12 t, t.tx.txq)) =
      some (0x8002#32, [(0xA0#8, false), (0x03#8, false), (0x01#8, false), (0x73#8, false),
        (0x00#8, false), (0x71#8, true)]) := by decide

/-- 43_sequencer.md R236's example: the last tick closes, LAST_ERR 0x4, open(chan, cand[1]). -/
theorem test_tick_timeout :
    (let s := inScript .a .initWait
     (after .tick { s with sess := { s.sess with timer := 1#17 } }).map
        fun t => (t.ports.closeReq, t.ports.openReq, regRead 0x028#12 t, t.sess.handleOpen)) =
      some (true, some (3#8, 57600#32), 0x4#32, false) := by decide

/-- 43_sequencer.md R243's last row: the delay's last tick connects, STEP_IDX 1, CHOSEN_BAUD 9600. -/
theorem test_tick_delay :
    (let s := inScript .a .initDelay
     (after .tick { s with sess := { s.sess with timer := 1#17 } }).map
        fun t => (regRead 0x00C#12 t, regRead 0x024#12 t, regRead 0x010#12 t)) =
      some (0x040D#32, 9600#32, 0x2#32) := by decide

/-- 42_decoders.md R196's example: STATUS 0x402D after CARD; the row of the APDU does the same (log 6). -/
theorem test_cardPresent :
    readAfter .cardPresent 0x00C#12 (session .pcsc .connected) = some 0x402D#32 ∧
      after .pcscGetUid (session .pcsc .connected) =
        after .cardPresent (session .pcsc .connected) := by decide

/-- 10_state.md R58: 24 pairs are the most the internal queue holds, and a card that finds no room for
its five still starts the transmit (R196), its queue left to a free value (log 10). -/
theorem test_cardPresent_overfull :
    txqFits (List.replicate 24 (0#8, false)) = true ∧ txqFits (List.replicate 25 (0#8, false)) = false ∧
      (let s := { session .pcsc .connected with tx := ⟨List.replicate 20 (0#8, false), []⟩ }
       (after .cardPresent s).map (fun t => (t.rx.pcBusy, t.drawn)) = some (true, 1)) := by decide

/-- 42_decoders.md R199. -/
theorem test_cardRemoved : after .cardRemoved awaiting = some awaiting := by decide

/-- 42_decoders.md R198's example: STATUS back to 0x2D, and the flag. -/
theorem test_xferErr :
    (after .xferErr { awaiting with tx := ⟨[(0#8, true)], []⟩ }).map
        (fun t => (regRead 0x00C#12 t, regRead 0x010#12 t, t.tx.txq)) =
      some (0x2D#32, 0x200#32, []) := by decide

/-- 70_reset_and_hazards.md R340: no close, even with a handle held. -/
theorem test_reset :
    (after .reset (session .a .connected)).map
        (fun t => (regRead 0x00C#12 t, t.ports.closeReq, t.sess.handleOpen)) =
      some (0#32, false, false) := by decide

/-! ### Steps of the frame and response rows -/

/-- What a frame leaves: CNT_FRAMES, IRQ_STATUS, EVT_LEVEL and EVT_HEAD. -/
def outcomeOf (i : Instr) (s : State) : Option (Word × Word × Word × Word) :=
  (after i s).map fun t =>
    (regRead 0x050#12 t, regRead 0x010#12 t, regRead 0x070#12 t, regRead 0x074#12 t)

/-- 42_decoders.md R180's example. -/
theorem test_aFrameError :
    outcomeOf (.aFrameError [0xA0#8, 1#8, 1#8, 0#8]) (session .a .connected) =
      some (1#32, 0x20#32, 0#32, 0#32) := by decide

/-- 42_decoders.md R181's example under STRICT_A = 1. -/
theorem test_aStrictDrop :
    outcomeOf (.aStrictDrop ([0xA0#8, 0x10#8, 1#8, 0x89#8, 0#8, 1#8] ++ id1 ++ [0x54#8]))
      (session .a .connected) = some (1#32, 0x10#32, 0#32, 0#32) := by decide

/-- R181's example under STRICT_A = 0: one TAG with CSUM_BAD, ID_LEN 12. -/
theorem test_aInventory_lenient :
    outcomeOf (.aInventory ([0xA0#8, 0x10#8, 1#8, 0x89#8, 0#8, 1#8] ++ id1 ++ [0x54#8]))
      (session .a .connected) = some (1#32, 0x11#32, 1#32, 0x000C8941#32) := by decide

/-- 42_decoders.md R183's example: 0xFB is a ProtocolError for family A. -/
theorem test_aInventory_status :
    outcomeOf (.aInventory [0xA0#8, 4#8, 1#8, 0x89#8, 0#8, 0xFB#8, 0x77#8]) (session .a .connected) =
      some (1#32, 0x41#32, 1#32, 0x00008904#32) := by decide

/-- 42_decoders.md R185's example: two slots of three, with PARTIAL. -/
theorem test_aBuffer_partial :
    (after (.aBuffer ([0xA0#8, 0x1E#8, 1#8, 0x90#8, 0#8, 3#8] ++ id1 ++ id1 ++ [0x11#8, 0x22#8, 0x07#8]))
        (session .a .connected)).map (fun t => (t.evt.map (·.id), t.log.partialBatch)) =
      some ([id1, id1], 1#32) := by decide

/-- R185: COUNT 0 is NOTAGS. -/
theorem test_aBuffer_empty :
    outcomeOf (.aBuffer [0xA0#8, 4#8, 1#8, 0x90#8, 0#8, 0#8, 0x95#8]) (session .a .connected) =
      some (1#32, 0x1#32, 1#32, 0x00009002#32) := by decide

/-- 42_decoders.md R186's example. -/
theorem test_aAck :
    outcomeOf (.aAck [0xA0#8, 3#8, 1#8, 0x72#8, 0x10#8, 0x60#8]) (session .a .connected) =
      some (1#32, 0x1#32, 1#32, 0x00007203#32) := by decide

/-- 43_sequencer.md R243: the expected response, in INIT_WAIT, starts the delay and publishes nothing. -/
theorem test_aAck_completes_a_step :
    (after (.aAck [0xA0#8, 3#8, 1#8, 0x73#8, 0x10#8, 0x61#8]) (inScript .a .initWait)).map
        (fun t => (t.sess.seq, t.sess.timer, t.evt)) = some (.initDelay, 51#17, []) := by decide

/-- 42_decoders.md R190's case: a bad CRC drops the frame. -/
theorem test_bCrcDrop :
    outcomeOf (.bCrcDrop [5#8, 0#8, 1#8, 0xFB#8, 0xF2#8, 0xC2#8]) (session .b .connected) =
      some (1#32, 0x10#32, 0#32, 0#32) := by decide

/-- 42_decoders.md R191's example: the source's NoTags vector. -/
theorem test_bInventory_noTags :
    outcomeOf (.bInventory [5#8, 0#8, 1#8, 0xFB#8, 0xF2#8, 0x3D#8]) (session .b .connected) =
      some (1#32, 0x1#32, 1#32, 0x00000112#32) := by decide

/-- 42_decoders.md R193's example: the zero-length record is skipped. -/
theorem test_bInventory_zero_length_record :
    (after (.bInventory [0x0A#8, 0#8, 1#8, 1#8, 2#8, 0#8, 2#8, 0xAB#8, 0xCD#8, 0x58#8, 0xC4#8])
        (session .b .connected)).map (fun t => t.evt.map (·.id)) = some [[0xAB#8, 0xCD#8]] := by decide

/-- 42_decoders.md R194's example. -/
theorem test_bAck :
    outcomeOf (.bAck [5#8, 0#8, 0x21#8, 0#8, 0x9D#8, 0x57#8]) (session .b .connected) =
      some (1#32, 0x1#32, 1#32, 0x00002113#32) := by decide

/-- 42_decoders.md R197's examples. -/
theorem test_pcscFrameError :
    outcomeOf (.pcscFrameError [0x90#8]) awaiting = some (1#32, 0x20#32, 0#32, 0#32) := by decide

theorem test_pcscNotags :
    outcomeOf .pcscNotags awaiting = some (1#32, 0x1#32, 1#32, 0x00000022#32) := by decide

theorem test_pcscTag :
    (after (.pcscTag [0x04#8, 0xA1#8, 0xB2#8, 0xC3#8]) awaiting).map
        (fun t => (regRead 0x074#12 t, regRead 0x400#12 t, t.rx.pcBusy)) =
      some (0x00040021#32, 0xC3B2A104#32, false) := by decide

theorem test_pcscProtoError :
    (after (.pcscProtoError [0x11#8, 0x22#8, 0x63#8, 0x00#8]) awaiting).map
        (fun t => (regRead 0x074#12 t, regRead 0x078#12 t, regRead 0x06C#12 t)) =
      some (0x00000024#32, 0x00006300#32, 0x6300#32) := by decide

/-- 42_decoders.md R200's example: a full FIFO keeps its sixteen records. -/
theorem test_full_fifo :
    (let s := session .pcsc .connected
     (after .pcscNotags { awaiting with evt := List.replicate 16 (recordPcsc .noTags 0#16 []), sess := s.sess }).map
        fun t => (t.evt.length, regRead 0x060#12 t, regRead 0x010#12 t)) =
      some (16, 1#32, 0x9#32) := by decide

/-- A table word placed in front of the reset state is the first operation run. -/
theorem test_withFetchWord :
    (match step (State.reset.withFetchWord 16 0x0000) with
      | .next t => t.ports.busRdata
      | .fault _ => none
      | .refused _ => none) = some 0x43524331#32 := by decide

/-! ### Witnesses: a state and operands that meet each statement's hypotheses -/

/-- An Ack of family A, and one of family B (42_decoders.md R186, R194). -/
def ackA : List Byte := [0xA0#8, 3#8, 1#8, 0x72#8, 0x10#8, 0x60#8]

def ackB : List Byte := [5#8, 0#8, 0x21#8, 0#8, 0x9D#8, 0x57#8]

/-- The frame of 42_decoders.md R193 with a zero-length record, its records and its CRC apart. -/
def zeroRecordB : List Byte :=
  [0x0A#8, 0#8, 1#8, 1#8, 2#8, 0#8, 2#8, 0xAB#8, 0xCD#8, 0x58#8, 0xC4#8]

/-- 42_decoders.md R193: COUNT 2 with one record and nothing after it, and COUNT 1 with a record whose
length overruns the frame. -/
def shortB : List Byte := [0x13#8, 0#8, 1#8, 1#8, 2#8, 0x0C#8] ++ id1 ++ [0x27#8, 0xAC#8]

def overrunB : List Byte := [0x13#8, 0#8, 1#8, 1#8, 1#8, 0x0D#8] ++ id1 ++ [0xB4#8, 0x2A#8]

theorem witness_StepRunsTheDecodedInstruction :
    ({ base with inputs := [⟨.port, [3#8]⟩] } : State).inputs = ⟨.port, [3#8]⟩ :: [] ∧
      decode (selectorsOf base) ⟨.port, [3#8]⟩ = .ok .tick ∧
      ({ base with inputs := [⟨.port, [9#8]⟩] } : State).inputs = ⟨.port, [9#8]⟩ :: [] ∧
      decode (selectorsOf base) ⟨.port, [9#8]⟩ = .error .noSuchStrobe ∧ base.inputs = [] := by decide

theorem witness_DecodeOfEncodeGivesItBack :
    (Instr.aAck ackA).wellFormed = true ∧ (Instr.aAck ackA).selected ⟨true, 0#8, 0#8⟩ = true ∧
      (Instr.pcscTag (List.replicate 256 0#8)).wellFormed = true ∧
      (Instr.pcscFrameError (List.replicate 259 0#8)).wellFormed = true := by decide +kernel

theorem witness_DecoderAcceptsOnlyWhatTheTablesGive :
    decode ⟨true, 0#8, 0#8⟩ ⟨.frameA, ackA⟩ = .ok (.aAck ackA) ∧
      decode ⟨true, 0#8, 0#8⟩ ⟨.frameB, ackB⟩ = .ok (.bAck ackB) ∧
      decode ⟨true, 0#8, 0#8⟩ ⟨.apduResponse, [0x90#8]⟩ = .ok (.pcscFrameError [0x90#8]) ∧
      decode ⟨true, 0#8, 0#8⟩ ⟨.apduCommand, [0xFF#8, 0xCA#8, 0#8, 0#8, 0#8]⟩ = .ok .pcscGetUid ∧
      decode ⟨true, 0#8, 0#8⟩ ⟨.cmd, [1#8, 0#8, 0#8, 0#8]⟩ = .ok .connect := by decide +kernel

theorem witness_ReadsOfTheHeadRecord :
    base.evt = [] ∧
      ({ base with evt := [recordPcsc .tag 0#16 id1] } : State).evt = recordPcsc .tag 0#16 id1 :: [] :=
  by decide

theorem witness_UnlistedOffsetsReadZeroAndIgnoreWrites :
    ∀ off ∈ [0x07C#12, 0x0A0#12, 0x0FC#12, 0x200#12, 0x3FC#12, 0x500#12, 0xFFC#12],
      off.toNat % 4 = 0 ∧
        (off.toNat = 0x07C ∨ (0x0A0 ≤ off.toNat ∧ off.toNat ≤ 0x0FC) ∨
          (0x200 ≤ off.toNat ∧ off.toNat ≤ 0x3FC) ∨ (0x500 ≤ off.toNat ∧ off.toNat ≤ 0xFFC)) := by
  decide

theorem witness_RefusedAccessesChangeNoState :
    ∀ acc ∈ [(⟨true, 1#2, 0x004#12, 0#32⟩ : BusAccess), ⟨false, 3#2, 0xFFC#12, 0#32⟩,
        ⟨true, 0#2, 0x001#12, 0#32⟩, ⟨false, 0#2, 0xFFF#12, 0#32⟩],
      acc.size ≠ Config.busSizeWord ∨ acc.addr.toNat % 4 ≠ 0 := by decide

theorem witness_WritesOfLegalisedAndLockedRegisters :
    (∀ q ∈ [SeqState.opening, .initTx, .initWait, .initDelay], IsLocked (session .a q)) ∧
      ∀ q ∈ [SeqState.idle, .connected, .failed, .aborting], ¬ IsLocked (session .a q) := by decide

theorem witness_CrcDataWritesRunTheEngine : base.eng.crc = crc16 [] := by decide

theorem witness_XorDataWritesFoldBytesIn : base.eng.xacc = xor8 [] := by decide

theorem witness_RefusedConnectSetsBadCmd :
    ({ base with regs := { base.regs with ctrl := ⟨3#2, false, false, true⟩ } } : State).regs.ctrl.family =
        3#2 ∧
      (session .a .opening).sess.seq = .opening ∧ (session .a .aborting).sess.seq = .aborting := by
  decide

theorem witness_ConnectLatchesAndOpensTheFirstCandidate :
    base.regs.ctrl.family = familyCode .a ∧ base.sess.seq ≠ .opening ∧ base.sess.seq ≠ .aborting ∧
      (session .a .connected).regs.ctrl.family = familyCode .a ∧
      (session .a .connected).sess.seq ≠ .opening ∧ (session .a .connected).sess.seq ≠ .aborting := by
  decide

theorem witness_BytesNoSessionTakesAreDiscarded :
    ¬ IsLive base ∧ ¬ IsLive (session .a .aborting) ∧
      ((session .pcsc .initTx).sess.fam = .pcsc ∧ (session .pcsc .initTx).sess.seq ≠ .connected) ∧
      ((session .pcsc .connected).sess.fam = .pcsc ∧
        (session .pcsc .connected).rx.pcBusy = false) := by decide

theorem witness_FamilyAByteHasTheByteSerialForm :
    IsLive (session .a .connected) ∧ (session .a .connected).sess.fam = .a ∧
      PendOk .a (session .a .connected).rx.pend ∧ PendOk .a [0xA0#8] ∧ PendOk .a [0xA0#8, 0#8] ∧
      PendOk .a ([0xA0#8, 0xFF#8] ++ List.replicate 255 0#8) :=
  ⟨by decide, by decide, by decide, by decide, by decide, by decide +kernel⟩

theorem witness_FamilyAAssemblyIsChunkInvariant :
    IsLive (inScript .a .initWait) ∧ (inScript .a .initWait).sess.fam = .a ∧
      PendOk .a (inScript .a .initWait).rx.pend := by decide

theorem witness_FamilyBByteByByte :
    IsLive (session .b .connected) ∧ (session .b .connected).sess.fam = .b ∧
      (session .b .connected).rx.pend = [] ∧ (3#8).toNat < 4 ∧ 4 ≤ (4#8).toNat ∧
      ({ session .b .connected with rx := ⟨[4#8, 0#8], [], false, false⟩ } : State).rx.pend =
        4#8 :: [0#8] := by decide

theorem witness_PcscByteIsCollectedOrLost :
    awaiting.sess.seq = .connected ∧ awaiting.sess.fam = .pcsc ∧ awaiting.rx.pcBusy = true ∧
      ({ awaiting with rx := ⟨[], List.replicate 257 0#8, false, true⟩ } : State).rx.pcBuf.length < 258 ∧
      258 ≤ ({ awaiting with rx := ⟨[], List.replicate 258 0#8, false, true⟩ } : State).rx.pcBuf.length :=
  by decide +kernel

theorem witness_TxBeatTakesTheByteOffered :
    ({ inScript .a .initTx with tx := ⟨[(0x71#8, true)], []⟩ } : State).tx.txq = (0x71#8, true) :: [] ∧
      ({ session .a .connected with tx := ⟨[], [9#8]⟩ } : State).tx.txq = [] ∧
      ({ session .a .connected with tx := ⟨[], [9#8]⟩ } : State).tx.htx = 9#8 :: [] ∧
      base.tx.txq = [] ∧ base.tx.htx = [] := by decide

theorem witness_FailedOpenTriesTheNextCandidate : (session .b .opening).sess.seq = .opening := by decide

theorem witness_SuccessfulOpenConnectsOrStartsTheScript :
    (session .pcsc .opening).sess.seq = .opening ∧ (session .pcsc .opening).sess.fam = .pcsc ∧
      (session .a .opening).regs.initCount = 0#4 ∧
      (inScript .a .opening).sess.seq = .opening ∧ (inScript .a .opening).sess.fam ≠ .pcsc ∧
      (inScript .a .opening).regs.initCount ≠ 0#4 ∧ (inScript .a .opening).tx.txq = [] ∧
      (inScript .a .opening).regs.script[0].nbytes ≤ 24#5 ∧
      (inScript .a .opening).regs.script[0].nbytes ≠ 0#5 := by decide

theorem witness_OpenAnswersOutsideOpening :
    (session .a .aborting).sess.seq = .aborting ∧ (session .a .failed).sess.seq ≠ .aborting ∧
      (session .a .failed).sess.seq ≠ .opening := by decide

theorem witness_WaitsAreNeverShortened :
    let s := inScript .a .initWait
    let t := { s with sess := { s.sess with timer := 0x10000#17 } }
    (t.sess.seq = .initWait ∨ t.sess.seq = .initDelay) ∧ 65535 < t.sess.timer.toNat := by decide

theorem witness_StepCompletionFollowsTheRules :
    let s := { session .pcsc .connected with tx := ⟨List.replicate 19 (0#8, false), []⟩ }
    let e : ScriptEntry := ⟨24#5, 1#8, 0x73#8, 0#16, Vector.replicate 6 0x730103A0#32⟩
    let u := { session .a .initDelay with
      regs := { base.regs with script := (script 0#16).set 7 e }
      sess := { (session .a .initDelay).sess with k := 7#4 } }
    s.tx.txq.length + Config.getUidApdu.length ≤ 24 ∧ base.tx.txq.length + 24 ≤ 24 ∧
      u.sess.k.toNat < 8 ∧ u.regs.script[7].nbytes = 24#5 ∧ u.tx.txq = [] ∧
      (inScript .a .opening).sess.k.toNat < 8 ∧
      (inScript .a .opening).regs.script[0].nbytes ≠ 0#5 ∧ (inScript .a .opening).tx.txq = [] := by
  decide

/-- 43_sequencer.md R228: step 7 queues entry 7's bytes. -/
theorem test_startStep_entry7 :
    (let s := session .a .initDelay
     let e : ScriptEntry := ⟨2#5, 1#8, 0x73#8, 0#16, Vector.replicate 6 0x7301BBAA#32⟩
     (startStep { s with
        regs := { s.regs with script := (script 0#16).set 7 e }
        sess := { s.sess with k := 7#4 } }).tx.txq) = [(0xAA#8, false), (0xBB#8, true)] := by decide

theorem witness_CardPresentIssuesTheGetUidCommand :
    let s := session .pcsc .connected
    let q19 := { s with tx := ⟨List.replicate 19 (0#8, false), []⟩ }
    let q20 := { s with tx := ⟨List.replicate 20 (0#8, false), []⟩ }
    ¬(awaiting.sess.seq = .connected ∧ awaiting.sess.fam = .pcsc ∧ awaiting.rx.pcBusy = false) ∧
      (s.sess.seq = .connected ∧ s.sess.fam = .pcsc ∧ s.rx.pcBusy = false) ∧
      q19.tx.txq.length ≤ 19 ∧ 19 < q20.tx.txq.length ∧ q20.sess = s.sess ∧ q20.rx = s.rx := by decide

theorem witness_EveryCandidateIsTriedOnceInOrder :
    let s := { base with regs := { base.regs with baudCount := 8#4 } }
    let errs : List (BitVec 2) := [0#2, 1#2, 2#2, 3#2, 0#2, 1#2, 2#2, 3#2]
    s.regs.ctrl.family = familyCode .a ∧ s.sess.seq ≠ .opening ∧ s.sess.seq ≠ .aborting ∧
      RegsOk s.regs ∧ errs ≠ [] ∧ errs.length = (candidates .a s.regs).2.toNat ∧ 0 ≤ errs.length ∧
      8 ≤ errs.length := by decide

theorem witness_WholeFrameEqualsItsBytes :
    decode (selectorsOf base) ⟨.frameA, ackA⟩ = .ok (.aAck ackA) ∧
      decode (selectorsOf base) ⟨.frameB, ackB⟩ = .ok (.bAck ackB) ∧
      decode (selectorsOf base) ⟨.apduResponse, [] ++ [0x90#8]⟩ = .ok (.pcscFrameError [0x90#8]) := by
  decide +kernel

theorem witness_FamilyAInventoryOutcome :
    ∀ f ∈ [[0xA0#8, 2#8, 1#8, 0x89#8, 0x8A#8], [0xA0#8, 4#8, 1#8, 0x89#8, 0#8, 1#8, 0x8D#8],
        [0xA0#8, 5#8, 1#8, 0x89#8, 0#8, 1#8, 0#8, 0x8C#8], [0xA0#8, 4#8, 1#8, 0x89#8, 0#8, 0#8, 0x8C#8],
        [0xA0#8, 4#8, 1#8, 0x89#8, 0#8, 0xFB#8, 0x77#8]],
      AtBoundary .a (session .a .connected) ∧ (Instr.aInventory f).wellFormed = true ∧
        (Instr.aInventory f).selected (selectorsOf (session .a .connected)) = true := by decide

theorem witness_FamilyABufferOutcome :
    ∀ f ∈ [[0xA0#8, 3#8, 1#8, 0x90#8, 0#8, 0x92#8], [0xA0#8, 4#8, 1#8, 0x90#8, 0#8, 0#8, 0x95#8],
        [0xA0#8, 0x10#8, 1#8, 0x90#8, 0#8, 1#8] ++ id1 ++ [0#8]],
      AtBoundary .a (session .a .connected) ∧ (Instr.aBuffer f).wellFormed = true ∧
        (Instr.aBuffer f).selected (selectorsOf (session .a .connected)) = true := by decide

theorem witness_FamilyAAckErrorAndStrictDrop :
    let s := session .a .connected
    let strict := { s with regs := { s.regs with ctrl := ⟨0#2, true, false, true⟩ } }
    AtBoundary .a s ∧ AtBoundary .a strict ∧
      (Instr.aAck ackA).wellFormed = true ∧ (Instr.aAck ackA).selected (selectorsOf s) = true ∧
      (Instr.aFrameError [0xA0#8, 0#8, 0#8]).wellFormed = true ∧
      (Instr.aFrameError [0xA0#8, 0#8, 0#8]).selected (selectorsOf s) = true ∧
      (Instr.aFrameError [0xA0#8, 1#8, 1#8, 0#8]).wellFormed = true ∧
      (Instr.aFrameError [0xA0#8, 1#8, 1#8, 0#8]).selected (selectorsOf s) = true ∧
      (Instr.aStrictDrop [0xA0#8, 2#8, 1#8, 0x72#8, 0#8]).wellFormed = true ∧
      (Instr.aStrictDrop [0xA0#8, 2#8, 1#8, 0x72#8, 0#8]).selected (selectorsOf strict) = true := by
  decide

theorem witness_FamilyBTagRecordsOutcome :
    AtBoundary .b (session .b .connected) ∧ (Instr.bInventory zeroRecordB).wellFormed = true ∧
      zeroRecordB =
        [0x0A#8, 0#8, 1#8, 1#8, 2#8] ++ tagRecordBytes [[], [0xAB#8, 0xCD#8]] ++ [] ++
          [0x58#8, 0xC4#8] ∧
      (Instr.bInventory shortB).wellFormed = true ∧
      shortB = [0x13#8, 0#8, 1#8, 1#8, 2#8] ++ tagRecordBytes [id1] ++ [] ++ [0x27#8, 0xAC#8] ∧
      (Instr.bInventory overrunB).wellFormed = true ∧
      overrunB =
        [0x13#8, 0#8, 1#8, 1#8, 1#8] ++ tagRecordBytes [] ++ (0x0D#8 :: id1) ++ [0xB4#8, 0x2A#8] ∧
      (0x0D#8 :: id1).length ≤ ((0x0D#8 :: id1).headD 0#8).toNat ∧ id1.length ≤ 255 := by decide +kernel

theorem witness_FamilyBOtherOutcomes :
    AtBoundary .b (session .b .connected) ∧
      (Instr.bInventory [4#8, 0#8, 1#8, 0xDB#8, 0x4B#8]).wellFormed = true ∧
      (Instr.bInventory [5#8, 0#8, 1#8, 1#8, 0x27#8, 0x65#8]).wellFormed = true ∧
      (Instr.bInventory [5#8, 0#8, 1#8, 0xFB#8, 0xF2#8, 0x3D#8]).wellFormed = true ∧
      (Instr.bInventory [6#8, 0#8, 1#8, 0xFE#8, 5#8, 0x79#8, 0xE0#8]).wellFormed = true ∧
      (Instr.bAck ackB).wellFormed = true ∧
      (Instr.bCrcDrop [4#8, 0#8, 1#8, 0xDB#8, 0x4C#8]).wellFormed = true := by decide +kernel

theorem witness_PcscResponseOutcome :
    AwaitsResponse awaiting ∧ (List.replicate 259 (0#8)).length > 258 ∧ [0x90#8].length = 1 ∧
      (List.replicate 256 (0#8)).length ≤ 256 ∧ 1 ≤ [7#8].length ∧ [7#8].length ≤ 256 ∧
      (0x90#8 ≠ 0x90#8 ∨ 0x01#8 ≠ 0x00#8) ∧ (0x6A#8 ≠ 0x90#8 ∨ 0x00#8 ≠ 0x00#8) := by decide +kernel

theorem witness_InitResponsesAreMatchedNotPublished :
    (inScript .a .initWait).sess.seq = .initWait ∧ (inScript .a .initWait).rx.pend = [] ∧
      (inScript .a .initWait).sess.fam = .a ∧
      decode (selectorsOf (inScript .a .initWait))
          ⟨.frameA, [0xA0#8, 3#8, 1#8, 0x73#8, 0x10#8, 0x61#8]⟩ =
        .ok (.aAck [0xA0#8, 3#8, 1#8, 0x73#8, 0x10#8, 0x61#8]) ∧
      (scriptAt (inScript .a .initWait) 0#4).expAddr = 1#8 ∧
      (scriptAt (inScript .a .initWait) 0#4).expCmd = 0x73#8 ∧
      (inScript .b .initDelay).sess.seq = .initDelay ∧ (inScript .b .initDelay).sess.fam = .b ∧
      decode (selectorsOf (inScript .b .initDelay)) ⟨.frameB, ackB⟩ = .ok (.bAck ackB) := by
  decide +kernel

theorem witness_CrcCheckFormsAgreeAndRoundTrip :
    2 ≤ [0xFF#8, 0xFF#8].length ∧ crcOk [0xFF#8, 0xFF#8] = true ∧ crcOk [0#8, 0#8] = false := by decide

theorem witness_XorCheckFormsAgree :
    3 ≤ [0xA0#8, 0#8, 0#8].length ∧ csumOk [0xA0#8, 0#8, 0#8] = true := by decide

theorem witness_OnlyTheHostChangesItsRegistersAndEngines :
    ∃ t, exec .tick base = .next t := ⟨_, rfl⟩

theorem witness_OnlyTheTableMovesTheSequencer :
    ∃ t, exec (.openRsp true 0#2) (session .a .opening) = .next t ∧ t.sess.seq = .connected :=
  ⟨_, rfl, by decide⟩

/-- The byte that completes the matching frame of 43_sequencer.md R243, and the frame whole. -/
theorem witness_OnlyTheTableMovesTheSequencer_matching :
    let f := [0xA0#8, 3#8, 1#8, 0x73#8, 0x10#8, 0x61#8]
    let s := inScript .a .initWait
    let p := { s with rx := { s.rx with pend := [0xA0#8, 3#8, 1#8, 0x73#8, 0x10#8] } }
    PendOk p.sess.fam p.rx.pend ∧ AnswersStepA p f ∧ seqAfterResponse p = .initDelay ∧
      (after (.rxByte 0x61#8 false) p).map (fun t => t.sess.seq) = some .initDelay ∧
      s.rx.pend = [] ∧ (Instr.aAck f).wellFormed = true ∧
      (Instr.aAck f).selected (selectorsOf s) = true ∧
      (after (.aAck f) s).map (fun t => t.sess.seq) = some .initDelay := by decide

/-- 42_decoders.md R202: a frame is logged during the script too. -/
theorem test_initWait_logs :
    (after (.aInventory [0xA0#8, 4#8, 9#8, 0x89#8, 0#8, 0xFB#8, 0x77#8]) (inScript .a .initWait)).map
        (fun t => (t.log.frames, t.log.csumErr, t.log.protoErr, t.log.protoCode, t.evt)) =
      some (1#32, 1#32, 1#32, 0xFB#16, []) := by decide

theorem witness_PublishedRecordsAreNeverChanged :
    let s := session .a .connected
    let p := { s with rx := { s.rx with pend := [0xA0#8, 3#8, 1#8, 0x72#8, 0x10#8] } }
    ∃ t, exec (.rxByte 0x60#8 false) p = .next t ∧ PendOk p.sess.fam p.rx.pend ∧ t.evt ≠ p.evt :=
  ⟨_, rfl, by decide, by decide⟩

theorem witness_ClosesAndOpensArePaired :
    let s := { session .a .connected with
      regs := { base.regs with ctrl := ⟨2#2, false, false, true⟩ } }
    Inv s ∧ ∃ t, exec .connect (beginStep s.inputs s) = .next t ∧ t.ports.closeReq = true ∧
      t.ports.openReq = some (0#8, 0#32) :=
  ⟨⟨by decide, by decide, by decide, by decide, by decide⟩, _, rfl, by decide, by decide⟩

theorem witness_EveryStepKeepsTheRules :
    Inv State.reset ∧ ∃ t, step State.reset = .next t :=
  ⟨⟨by decide, by decide, by decide, by decide, by decide⟩, _, rfl⟩

end Sys2Proof.Tests
end

/-!
Proofs for 10_state.md: RESET (R67), the W1C write of IRQ_STATUS (R65) and the write of CMD (R26),
after the facts about the register window and the opcode rows that they need.
-/
namespace Sys2Proof.Machine

/-! ### The register window -/

/-- The BAUD_CAND range of the window (10_state.md R23). -/
theorem decodeRead_of_baudCand {off : Offset} (v : Word)
    (h : 0x080 ≤ off.toNat ∧ off.toNat < 0x0A0) :
    decodeRead off v = .rdBaudCand (candIndex off) := by
  unfold decodeRead
  split
  case h_32 => exact if_pos h
  all_goals omega

/-- The INIT_SCRIPT range of the window (10_state.md R23). -/
theorem decodeRead_of_initScript {off : Offset} (v : Word)
    (h : 0x100 ≤ off.toNat ∧ off.toNat < 0x200) :
    decodeRead off v = .rdInitScript (scriptIndex off) (scriptWord off) := by
  unfold decodeRead
  split
  case h_32 =>
    have notCand : ¬(0x080 ≤ off.toNat ∧ off.toNat < 0x0A0) := by omega
    rw [if_neg notCand, if_pos h]
  all_goals omega

theorem regRead_of_baudCand {off : Offset} (s : State)
    (h : 0x080 ≤ off.toNat ∧ off.toNat < 0x0A0) :
    regRead off s = readBaudCand (candIndex off) s := by
  simp only [regRead, decodeRead_of_baudCand _ h]

theorem regRead_of_initScript {off : Offset} (s : State)
    (h : 0x100 ≤ off.toNat ∧ off.toNat < 0x200) :
    regRead off s = readInitScript (scriptIndex off) (scriptWord off) s := by
  simp only [regRead, decodeRead_of_initScript _ h]

theorem regRead_irqStatus (s : State) : regRead 0x010#12 s = readIrqStatus s := rfl

/-- No register shows the events to come or the count of free values: they are not the block's
(log 1, log 10). -/
theorem regRead_of_environment (off : Offset) (s : State) (is : List Input) (n : Nat) :
    regRead off { s with inputs := is, drawn := n } = regRead off s := rfl

/-! ### IRQ_STATUS -/

/-- Bit 0 is EVT_AVAIL, bits [10:1] are the sticky field and the bits above are 0 (10_state.md
R28). -/
theorem getLsbD_readIrqStatus (s : State) (i : Nat) :
    (readIrqStatus s).getLsbD i =
      if i = 0 then !s.evt.isEmpty else s.log.irq.getLsbD (i - 1) := by
  have hbits : (readIrqStatus s).getLsbD i =
      (decide (i < 32) && (s.log.irq ++ BitVec.ofBool (!s.evt.isEmpty)).getLsbD i) :=
    BitVec.getLsbD_setWidth ..
  rw [hbits, BitVec.getLsbD_append]
  cases i with
  | zero => simp
  | succ j =>
    by_cases h : j < 10
    · simp [show j + 1 < 32 by omega]
    · simp [BitVec.getLsbD_of_ge s.log.irq j (by omega)]

/-- Bit j of the field that the W1C write leaves: the written word's bit j + 1 clears it. -/
theorem getLsbD_clearIrq (v : Word) (s : State) (j : Nat) :
    (clearIrq v s).log.irq.getLsbD j =
      (s.log.irq.getLsbD j && !(decide (j < 10) && v.getLsbD (j + 1))) := by
  simp only [clearIrq_log, BitVec.getLsbD_and, BitVec.getLsbD_not, BitVec.getLsbD_extractLsb']
  by_cases h : j < 10
  · simp [h, Nat.add_comm]
  · simp [BitVec.getLsbD_of_ge s.log.irq j (by omega)]

theorem exec_wrIrqStatus (v : Word) (s : State) :
    exec (.wrIrqStatus v) s = .next (clearIrq v s) := rfl

/-- The W1C write changes the sticky field and nothing else. -/
theorem clearIrq_frame (v : Word) (s : State) :
    { clearIrq v s with log := { (clearIrq v s).log with irq := s.log.irq } } = s := rfl

/-- Settles O14, bit by bit: bit 0 follows the event FIFO, which the write leaves, and bit j + 1 is bit
j of the sticky field. -/
theorem irqStatusWriteClearsTheOnesWritten :
    Obligations.IrqStatusWriteClearsTheOnesWritten := by
  intro s v
  refine ⟨clearIrq v s, exec_wrIrqStatus v s, fun i => ?_, clearIrq_frame v s⟩
  simp only [regRead_irqStatus, getLsbD_readIrqStatus, getLsbD_clearIrq, clearIrq_evt]
  cases i with
  | zero => simp
  | succ j => simp

/-! ### CMD -/

/-- Each opcode's row runs the command that a write of CMD with that OP runs (30_encoding.md R92). -/
theorem exec_decodeOp (op : BitVec 4) (s : State) :
    exec (decodeOp op) s = .next (runCommand op s) := by
  obtain ⟨n⟩ := op
  fin_cases n <;> rfl

theorem exec_wrCmd (v : Word) (s : State) :
    exec (.wrCmd v) s = .next (runCommand (v.extractLsb' 0 4) s) := rfl

/-- A write-only register reads 0 (10_state.md R64). -/
theorem readsAs_rdWoRegister (r : WoReg) (s : State) : ReadsAs (.rdWoRegister r) 0 s :=
  ⟨0#32, rfl, rfl⟩

/-- Settles O18: the OP field selects the row that `decodeOp` names, and `exec_decodeOp` runs it. -/
theorem cmdWriteRunsTheCommand : Obligations.CmdWriteRunsTheCommand := by
  intro s v
  have hop : v.toNat % 16 = (v.extractLsb' 0 4).toNat := by simp
  refine ⟨_, exec_wrCmd v s, ?_, readsAs_rdWoRegister .cmd s⟩
  rw [hop]
  exact exec_decodeOp _ s

/-! ### RESET -/

theorem exec_reset (s : State) :
    exec .reset s = .next { State.reset with inputs := s.inputs, drawn := s.drawn } := rfl

theorem word_scriptEntry_zero (w : BitVec 3) : ScriptEntry.zero.word w = 0#32 := by
  unfold ScriptEntry.word
  split
  · rfl
  · split
    · rfl
    · by_cases h : w.toNat - 2 < 6 <;> simp [ScriptEntry.zero, h]

theorem readBaudCand_reset (n : BitVec 3) : readBaudCand n State.reset = 0#32 :=
  Vector.getElem_replicate n.isLt

theorem readInitScript_reset (k w : BitVec 3) : readInitScript k w State.reset = 0#32 := by
  have hentry : State.reset.regs.script[k.toNat]'k.isLt = ScriptEntry.zero :=
    Vector.getElem_replicate k.isLt
  rw [readInitScript, hentry, word_scriptEntry_zero]

/-- The registers outside the arrays that 10_state.md R67 lists at 0. -/
theorem regRead_reset_eq_zero :
    ∀ o ∈ [0x00C#12, 0x010#12, 0x014#12, 0x018#12, 0x01C#12, 0x020#12, 0x024#12, 0x028#12,
        0x034#12, 0x040#12, 0x04C#12, 0x050#12, 0x054#12, 0x058#12, 0x05C#12, 0x060#12, 0x064#12,
        0x068#12, 0x06C#12, 0x070#12], regRead o State.reset = 0#32 := by
  decide

theorem regRead_reset_baudCand (n : Fin 8) :
    regRead (BitVec.ofNat 12 (0x080 + 4 * n)) State.reset = 0#32 := by
  have hrange : 0x080 ≤ (BitVec.ofNat 12 (0x080 + 4 * n)).toNat ∧
      (BitVec.ofNat 12 (0x080 + 4 * n)).toNat < 0x0A0 := by
    simp only [BitVec.toNat_ofNat]; omega
  rw [regRead_of_baudCand _ hrange, readBaudCand_reset]

theorem regRead_reset_initScript (n : Fin 64) :
    regRead (BitVec.ofNat 12 (0x100 + 4 * n)) State.reset = 0#32 := by
  have hrange : 0x100 ≤ (BitVec.ofNat 12 (0x100 + 4 * n)).toNat ∧
      (BitVec.ofNat 12 (0x100 + 4 * n)).toNat < 0x200 := by
    simp only [BitVec.toNat_ofNat]; omega
  rw [regRead_of_initScript _ hrange, readInitScript_reset]

theorem irqLine_reset : irqLine State.reset = false := by decide

/-- Settles O41: RESET leaves `State.reset` but for the environment's fields, which no register shows;
its hidden fields stand as R67 lists them. -/
theorem resetLeavesTheListedValues : Obligations.ResetLeavesTheListedValues := by
  intro s
  refine ⟨_, exec_reset s, ?_⟩
  simp only [regRead_of_environment]
  refine ⟨rfl, rfl, rfl, rfl, rfl, regRead_reset_eq_zero, regRead_reset_baudCand,
    regRead_reset_initScript, ?_⟩
  -- the session (R50 to R55), the buffers and queues (R56 to R59), the engines (R60), the outputs (R9)
  exact ⟨rfl, rfl, rfl, rfl, rfl, rfl, rfl, rfl, rfl, rfl,
    rfl, rfl, rfl, rfl, rfl, rfl, rfl,
    rfl, rfl,
    irqLine_reset, rfl, rfl, rfl⟩

end Sys2Proof.Machine

/-!
Proofs for 40_assembler.md, family A: the byte-serial form of the assembler (R133) and chunk
invariance (R136). Both follow from one fact: the loop of R131 run on a chunk leaves the state that
its bytes leave one by one. It needs that a completed frame's decoding does not look at the bytes
pending.
-/
namespace Sys2Proof.Machine

/-! ### Decoding a frame leaves the receive side alone -/

/-- The operation neither reads nor writes the receive buffers, keeps the session's family, and keeps
a live session live (40_assembler.md R130). -/
structure KeepsReceiver (f : State → State) : Prop where
  ignores_rx : ∀ (r : RxState) (s : State), f { s with rx := r } = { f s with rx := r }
  keeps_fam : ∀ s : State, (f s).sess.fam = s.sess.fam
  keeps_live : ∀ s : State, s.sess.seq.live = true → (f s).sess.seq.live = true

namespace KeepsReceiver

theorem keeps_rx {f : State → State} (hf : KeepsReceiver f) (s : State) : (f s).rx = s.rx := by
  have h : f s = { f s with rx := s.rx } := hf.ignores_rx s.rx s
  rw [h]

theorem id : KeepsReceiver fun s => s := ⟨fun _ _ => rfl, fun _ => rfl, fun _ h => h⟩

theorem comp {f g : State → State} (hg : KeepsReceiver g) (hf : KeepsReceiver f) :
    KeepsReceiver fun s => g (f s) where
  ignores_rx r s := by rw [hf.ignores_rx, hg.ignores_rx]
  keeps_fam s := by rw [hg.keeps_fam, hf.keeps_fam]
  keeps_live s h := hg.keeps_live _ (hf.keeps_live s h)

/-- A branch on a condition that the receive buffers do not enter. -/
theorem ite {f g : State → State} {c : State → Prop} [DecidablePred c]
    (hc : ∀ (r : RxState) (s : State), c { s with rx := r } ↔ c s)
    (hf : KeepsReceiver f) (hg : KeepsReceiver g) :
    KeepsReceiver fun s => if c s then f s else g s where
  ignores_rx r s := by
    simp only [hc]
    split
    · exact hf.ignores_rx r s
    · exact hg.ignores_rx r s
  keeps_fam s := by
    split
    · exact hf.keeps_fam s
    · exact hg.keeps_fam s
  keeps_live s h := by
    split
    · exact hf.keeps_live s h
    · exact hg.keeps_live s h

end KeepsReceiver

theorem keepsReceiver_logCause (c : LogCause) : KeepsReceiver (logCause c) :=
  ⟨fun _ _ => rfl, fun _ => rfl, fun _ h => h⟩

theorem keepsReceiver_countFrame : KeepsReceiver countFrame :=
  ⟨fun _ _ => rfl, fun _ => rfl, fun _ h => h⟩

theorem keepsReceiver_countDiscard (n : Nat) : KeepsReceiver (countDiscard n) :=
  ⟨fun _ _ => rfl, fun _ => rfl, fun _ h => h⟩

theorem keepsReceiver_pushEvt (r : Record) : KeepsReceiver (pushEvt r) :=
  .ite (fun _ _ => Iff.rfl) ⟨fun _ _ => rfl, fun _ => rfl, fun _ h => h⟩
    (keepsReceiver_logCause .evtOvf)

theorem keepsReceiver_publish (rs : List Record) : KeepsReceiver (publish rs) := by
  induction rs with
  | nil => exact .id
  | cons r rs ih => exact ih.comp (keepsReceiver_pushEvt r)

/-! The init script: a response that matches may run on through every state of the sequencer that
holds a handle (43_sequencer.md R228, R232, R237, R238). -/

theorem keepsReceiver_enterConnected : KeepsReceiver enterConnected :=
  ⟨fun _ _ => rfl, fun _ => rfl, fun _ _ => rfl⟩

theorem keepsReceiver_enterDelayWith {adv : State → State} (h : KeepsReceiver adv) :
    KeepsReceiver (enterDelayWith adv) :=
  .ite (fun _ _ => Iff.rfl) h ⟨fun _ _ => rfl, fun _ => rfl, fun _ _ => rfl⟩

theorem keepsReceiver_finishTxWith {adv : State → State} (h : KeepsReceiver adv) :
    KeepsReceiver (finishTxWith adv) :=
  .ite (fun _ _ => Iff.rfl) ⟨fun _ _ => rfl, fun _ => rfl, fun _ _ => rfl⟩
    (keepsReceiver_enterDelayWith h)

theorem keepsReceiver_startStepWith {adv : State → State} (h : KeepsReceiver adv) :
    KeepsReceiver (startStepWith adv) := by
  have push : KeepsReceiver fun s =>
      txqPush (scriptAt s s.sess.k).bytes true { s with sess := { s.sess with seq := .initTx } } :=
    ⟨fun _ _ => rfl, fun _ => rfl, fun _ _ => rfl⟩
  exact .ite (fun _ _ => Iff.rfl) ((keepsReceiver_finishTxWith h).comp push) push

theorem keepsReceiver_advanceFuel (n : Nat) : KeepsReceiver (advanceFuel n) := by
  induction n with
  | zero => exact .id
  | succ n ih =>
    have next : KeepsReceiver fun s =>
        { s with sess := { s.sess with timer := 0#17, k := s.sess.k + 1 } } :=
      ⟨fun _ _ => rfl, fun _ => rfl, fun _ h => h⟩
    have turn : KeepsReceiver fun s =>
        if s.sess.k = s.regs.initCount then enterConnected s else startStepWith (advanceFuel n) s :=
      .ite (fun _ _ => Iff.rfl) keepsReceiver_enterConnected (keepsReceiver_startStepWith ih)
    exact turn.comp next

theorem keepsReceiver_stepResponseMatched : KeepsReceiver stepResponseMatched := by
  have stop : KeepsReceiver fun s => { s with sess := { s.sess with timer := 0#17 } } :=
    ⟨fun _ _ => rfl, fun _ => rfl, fun _ h => h⟩
  exact (keepsReceiver_enterDelayWith (keepsReceiver_advanceFuel 16)).comp stop

/-! The decoders (42_decoders.md R180 to R186, R202). -/

theorem keepsReceiver_logOutcome (o : FrameOutcome) : KeepsReceiver (logOutcome o) := by
  cases o with
  | ack | tagBatch | noTags | dropped => exact .id
  | protocolError | frameError => exact ⟨fun _ _ => rfl, fun _ => rfl, fun _ h => h⟩

theorem keepsReceiver_logDecoded (d : Decoded) : KeepsReceiver (logDecoded d) := by
  have csum : KeepsReceiver fun s => if d.csumErr then logCause .csumErr s else s :=
    .ite (fun _ _ => Iff.rfl) (keepsReceiver_logCause _) .id
  have cut : KeepsReceiver fun s => if d.cut then logCause .partialBatch s else s :=
    .ite (fun _ _ => Iff.rfl) (keepsReceiver_logCause _) .id
  exact (keepsReceiver_logOutcome d.outcome).comp (cut.comp csum)

theorem keepsReceiver_route (hdr : Option (Byte × Byte)) (recs : List Record) :
    KeepsReceiver (route hdr recs) :=
  .ite (fun _ _ => Iff.rfl) (keepsReceiver_publish recs)
    (.ite (fun _ _ => Iff.rfl) keepsReceiver_stepResponseMatched .id)

theorem keepsReceiver_deliver (fam : Family) (d : Decoded) : KeepsReceiver (deliver fam d) :=
  (keepsReceiver_route d.hdr _).comp (keepsReceiver_logDecoded d)

/-- The decoder that 30_encoding.md R106 selects for a family A frame. -/
def decodeSelectedA (sel : Selectors) (f : List Byte) : Decoded :=
  match selectA sel f with
  | .frameError => decodeAFrameError f
  | .strictDrop => decodeAStrictDrop f
  | .inventory => decodeAInventory f
  | .buffer => decodeABuffer f
  | .ack => decodeAAck f

theorem frameDoneA_eq_deliver (f : List Byte) (s : State) :
    frameDoneA f s = deliver .a (decodeSelectedA (selectorsOf s) f) s := by
  unfold frameDoneA decodeSelectedA
  cases selectA (selectorsOf s) f <;> rfl

theorem keepsReceiver_frameDoneA (f : List Byte) : KeepsReceiver (frameDoneA f) where
  ignores_rx r s := by
    rw [frameDoneA_eq_deliver, frameDoneA_eq_deliver]
    exact (keepsReceiver_deliver .a (decodeSelectedA (selectorsOf s) f)).ignores_rx r s
  keeps_fam s := by
    rw [frameDoneA_eq_deliver]
    exact (keepsReceiver_deliver .a _).keeps_fam s
  keeps_live s h := by
    rw [frameDoneA_eq_deliver]
    exact (keepsReceiver_deliver .a _).keeps_live s h

/-! ### The pending buffer -/

/-- The state with another pending buffer. -/
def withPend (p : List Byte) (s : State) : State := { s with rx := { s.rx with pend := p } }

@[simp] theorem withPend_rx_pend (p : List Byte) (s : State) : (withPend p s).rx.pend = p := rfl

@[simp] theorem withPend_withPend (p q : List Byte) (s : State) :
    withPend p (withPend q s) = withPend p s := rfl

@[simp] theorem withPend_self (s : State) : withPend s.rx.pend s = s := rfl

theorem countDiscard_withPend (n : Nat) (p : List Byte) (s : State) :
    countDiscard n (withPend p s) = withPend p (countDiscard n s) := rfl

theorem KeepsReceiver.ignores_pend {f : State → State} (hf : KeepsReceiver f) (p : List Byte)
    (s : State) : f (withPend p s) = withPend p (f s) := by
  simp only [withPend, hf.keeps_rx]
  exact hf.ignores_rx { s.rx with pend := p } s

/-- R133's form for family A: nothing, or a header and fewer bytes than the frame needs. -/
theorem pendOk_a_iff {p : List Byte} :
    PendOk .a p ↔ p = [] ∨ (byteAt p 0 = Config.headerA ∧ p.length < totalA p) := by
  simp [PendOk, Config.headerA]

/-- The second byte of a sequence is fixed once it is there, so `total` is. -/
theorem totalA_append {f : List Byte} (g : List Byte) (h : 2 ≤ f.length) :
    totalA (f ++ g) = totalA f := by
  simp [totalA, byteAt, List.getElem?_append_left h]

theorem three_le_totalA (f : List Byte) : 3 ≤ totalA f := Nat.le_add_left _ _

theorem byteAt_zero_append {f : List Byte} (g : List Byte) (h : f ≠ []) :
    byteAt (f ++ g) 0 = byteAt f 0 := by
  simp [byteAt, List.getElem?_append_left (List.length_pos_iff.2 h)]

theorem isFrameA_iff {f : List Byte} :
    isFrameA f = true ↔ byteAt f 0 = Config.headerA ∧ f.length = totalA f := by
  simp [isFrameA]

/-- A byte more on a begun frame keeps R133's form or completes the frame. -/
theorem pendOk_a_or_isFrameA_snoc {p : List Byte} (b : Byte) (hne : p ≠ []) (hp : PendOk .a p) :
    ((p ++ [b]).length < totalA (p ++ [b]) ∧ PendOk .a (p ++ [b])) ∨
      isFrameA (p ++ [b]) = true := by
  obtain ⟨hhead, hlen⟩ := (pendOk_a_iff.1 hp).resolve_left hne
  have hhead' : byteAt (p ++ [b]) 0 = Config.headerA := by rw [byteAt_zero_append _ hne, hhead]
  have hle : (p ++ [b]).length ≤ totalA (p ++ [b]) := by
    by_cases h2 : 2 ≤ p.length
    · rw [totalA_append _ h2, List.length_append]
      exact hlen
    · have := three_le_totalA (p ++ [b])
      simp only [List.length_append, List.length_singleton]
      omega
  rcases Nat.lt_or_eq_of_le hle with hlt | heq
  · exact .inl ⟨hlt, pendOk_a_iff.2 (.inr ⟨hhead', hlt⟩)⟩
  · exact .inr (isFrameA_iff.2 ⟨hhead', heq⟩)

/-! ### The byte-serial form -/

/-- A byte on a buffer of R133's form is garbage before a header, or begins or continues a frame, or
completes one (40_assembler.md R133). -/
theorem asmAByteSerial_cases (b : Byte) {s : State} (hp : PendOk .a s.rx.pend) :
    (s.rx.pend = [] ∧ b ≠ Config.headerA ∧ asmAByteSerial b s = countDiscard 1 s) ∨
      (PendOk .a (s.rx.pend ++ [b]) ∧ asmAByteSerial b s = withPend (s.rx.pend ++ [b]) s) ∨
      (isFrameA (s.rx.pend ++ [b]) = true ∧
        asmAByteSerial b s =
          frameDoneA (s.rx.pend ++ [b]) (countFrame (withPend [] s))) := by
  unfold asmAByteSerial
  by_cases hnil : s.rx.pend = []
  · rw [if_pos hnil, hnil]
    by_cases hb : b = 0xA0#8
    · subst hb
      exact .inr (.inl ⟨by decide, rfl⟩)
    · exact .inl ⟨rfl, hb, if_neg hb⟩
  · rw [if_neg hnil]
    rcases pendOk_a_or_isFrameA_snoc b hnil hp with ⟨hlt, hok⟩ | hframe
    · exact .inr (.inl ⟨hok, if_neg fun h => absurd h.2 (Nat.ne_of_lt hlt)⟩)
    · have hlen := (isFrameA_iff.1 hframe).2
      exact .inr (.inr ⟨hframe, if_pos ⟨hlen ▸ three_le_totalA _, hlen⟩⟩)

/-- A live family A session whose pending buffer has R133's form. -/
structure ReceivesA (s : State) : Prop where
  live : s.sess.seq.live = true
  fam : s.sess.fam = .a
  pendOk : PendOk .a s.rx.pend

theorem KeepsReceiver.receivesA {f : State → State} (hf : KeepsReceiver f) {s : State}
    (h : ReceivesA s) : ReceivesA (f s) where
  live := hf.keeps_live s h.live
  fam := (hf.keeps_fam s).trans h.fam
  pendOk := by rw [hf.keeps_rx]; exact h.pendOk

theorem ReceivesA.withPend {s : State} (h : ReceivesA s) {p : List Byte} (hp : PendOk .a p) :
    ReceivesA (withPend p s) :=
  ⟨h.live, h.fam, hp⟩

theorem asmAByteSerial_receivesA (b : Byte) {s : State} (h : ReceivesA s) :
    ReceivesA (asmAByteSerial b s) := by
  rcases asmAByteSerial_cases b h.pendOk with ⟨_, _, heq⟩ | ⟨hok, heq⟩ | ⟨_, heq⟩
  · rw [heq]
    exact (keepsReceiver_countDiscard 1).receivesA h
  · rw [heq]
    exact h.withPend hok
  · rw [heq]
    exact ((keepsReceiver_frameDoneA _).comp keepsReceiver_countFrame).receivesA
      (h.withPend (by decide))

/-! ### The loop of R131, turn by turn -/

theorem headerIndex_of_header {p : List Byte} (h : byteAt p 0 = Config.headerA) :
    headerIndex p = 0 := by
  cases p with
  | nil => rfl
  | cons b bs =>
    have hb : b = Config.headerA := h
    simp [headerIndex, List.findIdx_cons, hb]

theorem headerIndex_cons_of_ne {b : Byte} (bs : List Byte) (h : b ≠ Config.headerA) :
    headerIndex (b :: bs) = headerIndex bs + 1 := by
  simp [headerIndex, List.findIdx_cons, beq_eq_false_iff_ne.2 h]

/-- The rest of a turn, once what precedes the first header is dropped: wait, or slice a frame and
go on (40_assembler.md R131). -/
def assembleTurn (n : Nat) (s : State) : State :=
  if s.rx.pend.length < 3 then s
  else if s.rx.pend.length < totalA s.rx.pend then s
  else
    assembleA n (frameDoneA (s.rx.pend.take (totalA s.rx.pend))
      (countFrame (withPend (s.rx.pend.drop (totalA s.rx.pend)) s)))

theorem assembleA_succ (n : Nat) (s : State) :
    assembleA (n + 1) s =
      assembleTurn n (countDiscard (headerIndex s.rx.pend)
        (withPend (s.rx.pend.drop (headerIndex s.rx.pend)) s)) := rfl

/-- A turn on a buffer that starts with a header, or is empty, drops nothing. -/
theorem assembleA_succ_of_headerIndex_eq_zero (n : Nat) {s : State}
    (h : headerIndex s.rx.pend = 0) : assembleA (n + 1) s = assembleTurn n s := by
  rw [assembleA_succ, h, countDiscard_zero, List.drop_zero, withPend_self]

/-- A buffer with too few bytes is left to wait. -/
theorem assembleTurn_of_waits (n : Nat) {s : State}
    (h : s.rx.pend.length < 3 ∨ s.rx.pend.length < totalA s.rx.pend) : assembleTurn n s = s := by
  unfold assembleTurn
  split
  · rfl
  · exact if_pos (h.resolve_left ‹_›)

theorem assembleTurn_of_total_le (n : Nat) {s : State} (h : totalA s.rx.pend ≤ s.rx.pend.length) :
    assembleTurn n s =
      assembleA n (frameDoneA (s.rx.pend.take (totalA s.rx.pend))
        (countFrame (withPend (s.rx.pend.drop (totalA s.rx.pend)) s))) := by
  have h3 := three_le_totalA s.rx.pend
  rw [assembleTurn, if_neg (by omega), if_neg (by omega)]

/-- The loop waits on a buffer of R133's form. -/
theorem assembleA_of_pendOk (n : Nat) {s : State} (h : PendOk .a s.rx.pend) :
    assembleA n s = s := by
  cases n with
  | zero => rfl
  | succ n =>
    rcases pendOk_a_iff.1 h with hnil | ⟨hhead, hlen⟩
    · rw [assembleA_succ_of_headerIndex_eq_zero n (by rw [hnil]; rfl),
        assembleTurn_of_waits n (.inl (by simp [hnil]))]
    · rw [assembleA_succ_of_headerIndex_eq_zero n (headerIndex_of_header hhead),
        assembleTurn_of_waits n (.inr hlen)]

/-- A first byte that is no header may as well be dropped before the loop starts. -/
theorem assembleA_succ_cons_of_ne (n : Nat) {b : Byte} (bs : List Byte) (s : State)
    (h : b ≠ Config.headerA) :
    assembleA (n + 1) (withPend (b :: bs) s) =
      assembleA (n + 1) (withPend bs (countDiscard 1 s)) := by
  have hcount : countDiscard (headerIndex bs) (countDiscard 1 s) =
      countDiscard (headerIndex bs + 1) s := by
    rw [countDiscard_countDiscard, Nat.add_comm]
  have hdrop : countDiscard (headerIndex (b :: bs))
        (withPend ((b :: bs).drop (headerIndex (b :: bs))) s) =
      countDiscard (headerIndex bs) (withPend (bs.drop (headerIndex bs)) (countDiscard 1 s)) := by
    rw [headerIndex_cons_of_ne bs h, List.drop_succ_cons, countDiscard_withPend,
      countDiscard_withPend, hcount]
  rw [assembleA_succ, assembleA_succ, withPend_rx_pend, withPend_rx_pend, withPend_withPend,
    withPend_withPend, hdrop]

/-- A whole frame at the front is sliced and handed to its row, and the loop goes on behind it. -/
theorem assembleA_succ_append_of_isFrameA (n : Nat) {f : List Byte} (g : List Byte) (s : State)
    (hf : isFrameA f = true) :
    assembleA (n + 1) (withPend (f ++ g) s) =
      assembleA n (withPend g (frameDoneA f (countFrame (withPend [] s)))) := by
  obtain ⟨hhead, hlen⟩ := isFrameA_iff.1 hf
  have h3 : 3 ≤ f.length := hlen ▸ three_le_totalA f
  have hne : f ≠ [] := List.ne_nil_of_length_pos (by omega)
  have htotal : totalA (f ++ g) = f.length := by rw [totalA_append g (by omega), hlen]
  have hzero : headerIndex (f ++ g) = 0 :=
    headerIndex_of_header (by rw [byteAt_zero_append g hne, hhead])
  have hle : totalA (f ++ g) ≤ (f ++ g).length := by
    rw [htotal, List.length_append]
    omega
  have hdone := (keepsReceiver_frameDoneA f).comp keepsReceiver_countFrame
  rw [assembleA_succ_of_headerIndex_eq_zero n hzero, assembleTurn_of_total_le n hle,
    withPend_rx_pend, htotal, List.take_left, List.drop_left, withPend_withPend,
    hdone.ignores_pend g s, hdone.ignores_pend [] s, withPend_withPend]

/-! ### A chunk and its bytes -/

/-- The loop run on R133's buffer and a chunk behind it leaves what the chunk's bytes leave one by
one (40_assembler.md R131, R133). -/
theorem assembleA_eq_foldl_asmAByteSerial (c : List Byte) (n : Nat) {s : State}
    (hs : ReceivesA s) (hn : (s.rx.pend ++ c).length < n) :
    assembleA n (withPend (s.rx.pend ++ c) s) = c.foldl (fun t b => asmAByteSerial b t) s := by
  induction c generalizing n s with
  | nil =>
    rw [List.append_nil, withPend_self, assembleA_of_pendOk n hs.pendOk]
    rfl
  | cons b bs ih =>
    obtain ⟨m, rfl⟩ : ∃ m, n = m + 1 := ⟨n - 1, by omega⟩
    simp only [List.length_append, List.length_cons] at hn
    have hnext := asmAByteSerial_receivesA b hs
    rw [List.foldl_cons]
    rcases asmAByteSerial_cases b hs.pendOk with ⟨hnil, hb, heq⟩ | ⟨_, heq⟩ | ⟨hframe, heq⟩
    · have hpend : (asmAByteSerial b s).rx.pend = [] := by rw [heq]; exact hnil
      rw [← ih (m + 1) hnext (by rw [hpend, List.nil_append]; omega), hpend, heq, hnil]
      exact assembleA_succ_cons_of_ne m bs s hb
    · have hpend : (asmAByteSerial b s).rx.pend = s.rx.pend ++ [b] := by rw [heq]; rfl
      rw [← ih (m + 1) hnext (by rw [hpend]; simp; omega), hpend, heq, withPend_withPend,
        List.append_assoc, List.singleton_append]
    · have hdone := (keepsReceiver_frameDoneA (s.rx.pend ++ [b])).comp keepsReceiver_countFrame
      have hpend : (asmAByteSerial b s).rx.pend = [] := by rw [heq, hdone.keeps_rx]; rfl
      rw [← ih m hnext (by rw [hpend, List.nil_append]; omega), hpend, List.nil_append, heq,
        ← assembleA_succ_append_of_isFrameA m bs s hframe, List.append_assoc,
        List.singleton_append]

theorem asmAAppend_eq_foldl_asmAByteSerial (c : List Byte) {s : State} (hs : ReceivesA s) :
    asmAAppend c s = c.foldl (fun t b => asmAByteSerial b t) s :=
  assembleA_eq_foldl_asmAByteSerial c _ hs (Nat.lt_succ_self _)

theorem asmAByte_eq_asmAByteSerial (b : Byte) {s : State} (hs : ReceivesA s) :
    asmAByte b s = asmAByteSerial b s :=
  asmAAppend_eq_foldl_asmAByteSerial [b] hs

theorem rxByte_eq_asmAByteSerial (b : Byte) (last : Bool) {s : State} (hs : ReceivesA s) :
    rxByte b last s = asmAByteSerial b s := by
  rw [← asmAByte_eq_asmAByteSerial b hs]
  exact if_pos ⟨hs.live, hs.fam⟩

theorem rxBytes_eq_asmAAppend (c : List Byte) {s : State} (hs : ReceivesA s) :
    rxBytes c s = asmAAppend c s := by
  rw [asmAAppend_eq_foldl_asmAByteSerial c hs]
  induction c generalizing s with
  | nil => rfl
  | cons b bs ih =>
    rw [rxBytes_cons, rxByte_eq_asmAByteSerial b false hs, List.foldl_cons,
      ih (asmAByteSerial_receivesA b hs)]

theorem asmAAppend_receivesA (c : List Byte) {s : State} (hs : ReceivesA s) :
    ReceivesA (asmAAppend c s) := by
  rw [asmAAppend_eq_foldl_asmAByteSerial c hs]
  induction c generalizing s with
  | nil => exact hs
  | cons b bs ih => exact ih (asmAByteSerial_receivesA b hs)

/-- Received bytes do not depend on how they are cut into chunks (40_assembler.md R136). -/
theorem rxBytes_flatten (chunks : List (List Byte)) {s : State} (hs : ReceivesA s) :
    rxBytes chunks.flatten s = chunks.foldl (fun t c => asmAAppend c t) s := by
  induction chunks generalizing s with
  | nil => rfl
  | cons c cs ih =>
    rw [List.flatten_cons, rxBytes_append, rxBytes_eq_asmAAppend c hs, List.foldl_cons,
      ih (asmAAppend_receivesA c hs)]

/-! ### The statements -/

theorem exec_rxByte (b : Byte) (last : Bool) (s : State) :
    exec (.rxByte b last) s = .next (rxByte b last s) := rfl

theorem execAll_rxByte (bs : List Byte) (s : State) :
    execAll (bs.map fun b => .rxByte b false) s = .next (rxBytes bs s) := by
  induction bs generalizing s with
  | nil => rfl
  | cons b bs ih =>
    simp only [List.map_cons, execAll, exec_rxByte, rxBytes_cons]
    exact ih _

theorem live_of_isLive {s : State} (h : IsLive s) : s.sess.seq.live = true := by
  rcases h with h | h | h | h <;> rw [h] <;> rfl

/-- Settles O26: a byte is a chunk of one, and each case of the byte-serial form keeps R133's
form. -/
theorem familyAByteHasTheByteSerialForm : Obligations.FamilyAByteHasTheByteSerialForm := by
  intro s b last hlive hfam hpend
  have hs : ReceivesA s := ⟨live_of_isLive hlive, hfam, hpend⟩
  refine ⟨?_, (asmAByteSerial_receivesA b hs).pendOk⟩
  rw [exec_rxByte, rxByte_eq_asmAByteSerial b last hs]

/-- Settles O27, by induction on the chunks. -/
theorem familyAAssemblyIsChunkInvariant : Obligations.FamilyAAssemblyIsChunkInvariant := by
  intro s chunks hlive hfam hpend
  rw [execAll_rxByte, rxBytes_flatten chunks ⟨live_of_isLive hlive, hfam, hpend⟩]

end Sys2Proof.Machine

/-!
Proofs for 41_checksum_crc.md: the two forms of each frame check (R167, R171) and the CRC round trip
(R168). The XOR form cancels the checksum byte. The CRC form is that one bit of `crc_step` loses
nothing: the polynomial's top bit records the bit that fell out, so the engine's steps are injective.
A residue of 0 then has one source only, the register that equals the two CRC bytes.
-/
namespace Sys2Proof.Machine

/-! ### The last bytes of a sequence -/

theorem take_append_byteAt {f : List Byte} {i : Nat} (h : i < f.length) :
    f.take i ++ [byteAt f i] = f.take (i + 1) := by
  have hbyte : byteAt f i = f[i] := List.getD_eq_getElem f 0#8 h
  rw [hbyte, List.take_concat_get' f i h]

/-! ### The XOR checksum (R170, R171) -/

theorem xor8_append_singleton (g : List Byte) (b : Byte) : xor8 (g ++ [b]) = xor8 g ^^^ b := by
  simp [xor8]

/-- The range of `csum_ok` excludes the header and the checksum byte. -/
theorem csumOk_iff {f : List Byte} :
    csumOk f = true ↔ xor8 ((f.drop 1).take (f.length - 2)) = byteAt f (f.length - 1) := by
  have hcount : f.length - 2 + 1 - 1 = f.length - 2 := by omega
  simp only [csumOk, slice, beq_iff_eq, hcount]

/-- After its header a frame is the range the checksum covers, then the checksum byte. -/
theorem range_append_checksum {f : List Byte} (h : 2 ≤ f.length) :
    (f.drop 1).take (f.length - 2) ++ [byteAt f (f.length - 1)] = f.drop 1 := by
  obtain ⟨n, hn⟩ := Nat.exists_eq_add_of_le' h
  have hlen : (f.drop 1).length = n + 1 := by rw [List.length_drop, hn]; rfl
  have hlast : byteAt f (n + 1) = byteAt (f.drop 1) n := by simp [byteAt]
  rw [hn, Nat.add_sub_cancel, show n + 2 - 1 = n + 1 from rfl, hlast,
    take_append_byteAt (by omega), ← hlen, List.take_length]

/-- Settles O52: the XOR of a whole frame after its header is the checksum folded into the XOR of the
range it covers. -/
theorem xorCheckFormsAgree : Obligations.XorCheckFormsAgree := by
  intro f hlen
  have hwhole : xor8 (f.drop 1) =
      xor8 ((f.drop 1).take (f.length - 2)) ^^^ byteAt f (f.length - 1) := by
    rw [← xor8_append_singleton, range_append_checksum (by omega)]
  exact ⟨csumOk_iff, by rw [csumOk_iff, hwhole, BitVec.xor_eq_zero_iff]⟩

/-! ### One bit of the CRC engine (R161) -/

theorem crcBit_of_bit_zero {c : BitVec 16} (h : c.getLsbD 0 = false) : crcBit c = c >>> 1 := by
  simp only [crcBit, h, Bool.false_eq_true, if_false]

theorem crcBit_of_bit_one {c : BitVec 16} (h : c.getLsbD 0 = true) :
    crcBit c = (c >>> 1) ^^^ Config.crcPoly := by
  simp only [crcBit, h, if_true]

/-- The polynomial's top bit puts the bit that fell out at the top. -/
theorem getLsbD_crcBit_top (c : BitVec 16) : (crcBit c).getLsbD 15 = c.getLsbD 0 := by
  have hshift : (c >>> 1).getLsbD 15 = false := by
    rw [BitVec.getLsbD_ushiftRight]
    exact BitVec.getLsbD_of_ge c 16 le_rfl
  have hpoly : Config.crcPoly.getLsbD 15 = true := by decide
  cases h : c.getLsbD 0 with
  | false => rw [crcBit_of_bit_zero h, hshift]
  | true => rw [crcBit_of_bit_one h, BitVec.getLsbD_xor, hshift, hpoly]; rfl

theorem eq_of_bit_eq_of_ushiftRight_eq {c d : BitVec 16} (hbit : c.getLsbD 0 = d.getLsbD 0)
    (hshift : c >>> 1 = d >>> 1) : c = d := by
  apply BitVec.eq_of_getLsbD_eq
  intro i _
  cases i with
  | zero => exact hbit
  | succ j =>
    have hj := congrArg (·.getLsbD j) hshift
    simpa only [BitVec.getLsbD_ushiftRight, Nat.add_comm 1 j] using hj

theorem crcBit_injective : Function.Injective crcBit := by
  intro c d h
  have hbit : c.getLsbD 0 = d.getLsbD 0 := by
    rw [← getLsbD_crcBit_top, ← getLsbD_crcBit_top, h]
  refine eq_of_bit_eq_of_ushiftRight_eq hbit ?_
  cases hd : d.getLsbD 0 with
  | false => rwa [crcBit_of_bit_zero (hbit.trans hd), crcBit_of_bit_zero hd] at h
  | true =>
    rwa [crcBit_of_bit_one (hbit.trans hd), crcBit_of_bit_one hd, BitVec.xor_left_inj] at h

theorem repeat_crcBit_injective (n : Nat) : Function.Injective (Nat.repeat crcBit n) := by
  induction n with
  | zero => exact fun _ _ h => h
  | succ n ih => exact crcBit_injective.comp ih

/-- Bits that are 0 fall out without folding the polynomial in. -/
theorem repeat_crcBit_of_low_bits_zero (n : Nat) (c : BitVec 16)
    (h : ∀ i < n, c.getLsbD i = false) : Nat.repeat crcBit n c = c >>> n := by
  induction n with
  | zero => exact (BitVec.ushiftRight_zero c).symm
  | succ n ih =>
    have hbit : (c >>> n).getLsbD 0 = false := by
      rw [BitVec.getLsbD_ushiftRight]
      exact h n (Nat.lt_succ_self n)
    calc Nat.repeat crcBit (n + 1) c
        = crcBit (c >>> n) := by
          rw [Nat.repeat, ih fun i hi => h i (Nat.lt_succ_of_lt hi)]
      _ = c >>> (n + 1) := by rw [crcBit_of_bit_zero hbit, BitVec.shiftRight_add]

/-! ### The two CRC bytes (R99, R167) -/

theorem getLsbD_packHalf (lo hi : Byte) (i : Nat) :
    (packHalf lo hi).getLsbD i = if i < 8 then lo.getLsbD i else hi.getLsbD (i - 8) :=
  BitVec.getLsbD_append

theorem toNat_packHalf (lo hi : Byte) : (packHalf lo hi).toNat = lo.toNat + 256 * hi.toNat := by
  have happend : (packHalf lo hi).toNat = hi.toNat <<< 8 ||| lo.toNat := BitVec.toNat_append hi lo
  rw [happend, ← Nat.shiftLeft_add_eq_or_of_lt lo.isLt, Nat.shiftLeft_eq]
  omega

theorem packHalf_extractLsb' (c : BitVec 16) :
    packHalf (c.extractLsb' 0 8) (c.extractLsb' 8 8) = c := by
  apply BitVec.eq_of_toNat_eq
  simp only [toNat_packHalf, BitVec.extractLsb'_toNat, Nat.shiftRight_eq_div_pow]
  omega

theorem packHalf_xor_low (lo hi : Byte) :
    packHalf lo hi ^^^ lo.zeroExtend 16 = packHalf 0#8 hi := by
  apply BitVec.eq_of_getLsbD_eq
  intro i hi16
  have hlow : (lo.zeroExtend 16).getLsbD i = lo.getLsbD i := by
    rw [BitVec.getLsbD_setWidth, decide_eq_true hi16, Bool.true_and]
  rw [BitVec.getLsbD_xor, getLsbD_packHalf, getLsbD_packHalf, hlow]
  split
  · simp
  · rw [BitVec.getLsbD_of_ge lo i (by omega), Bool.xor_false]

theorem crcStep_eq_zero_iff {c : BitVec 16} {b : Byte} :
    crcStep c b = 0#16 ↔ c = b.zeroExtend 16 := by
  have hzero : Nat.repeat crcBit 8 0#16 = 0#16 := by decide
  calc crcStep c b = 0#16
      ↔ Nat.repeat crcBit 8 (c ^^^ b.zeroExtend 16) = Nat.repeat crcBit 8 0#16 := by
        rw [crcStep, hzero]
    _ ↔ c ^^^ b.zeroExtend 16 = 0#16 := (repeat_crcBit_injective 8).eq_iff
    _ ↔ c = b.zeroExtend 16 := BitVec.xor_eq_zero_iff

/-- A high byte over zeros is shifted down whole. -/
theorem repeat_crcBit_high_byte (hi : Byte) :
    Nat.repeat crcBit 8 (packHalf 0#8 hi) = hi.zeroExtend 16 := by
  have hlow : ∀ i < 8, (packHalf 0#8 hi).getLsbD i = false := by
    intro i h
    rw [getLsbD_packHalf, if_pos h, BitVec.getLsbD_zero]
  rw [repeat_crcBit_of_low_bits_zero 8 _ hlow]
  apply BitVec.eq_of_toNat_eq
  simp only [BitVec.toNat_ushiftRight, toNat_packHalf, BitVec.toNat_setWidth, BitVec.toNat_ofNat,
    Nat.shiftRight_eq_div_pow]
  omega

/-- The low byte leaves the high one behind only from the register that holds the two. -/
theorem crcStep_eq_high_byte_iff {c : BitVec 16} {lo hi : Byte} :
    crcStep c lo = hi.zeroExtend 16 ↔ c = packHalf lo hi := by
  calc crcStep c lo = hi.zeroExtend 16
      ↔ Nat.repeat crcBit 8 (c ^^^ lo.zeroExtend 16) =
          Nat.repeat crcBit 8 (packHalf lo hi ^^^ lo.zeroExtend 16) := by
        rw [crcStep, packHalf_xor_low, repeat_crcBit_high_byte]
    _ ↔ c ^^^ lo.zeroExtend 16 = packHalf lo hi ^^^ lo.zeroExtend 16 :=
        (repeat_crcBit_injective 8).eq_iff
    _ ↔ c = packHalf lo hi := BitVec.xor_left_inj _

/-- The residue is 0 exactly when the two bytes appended are the CRC, low byte first. -/
theorem crc16_append_eq_zero_iff {g : List Byte} {lo hi : Byte} :
    crc16 (g ++ [lo, hi]) = 0#16 ↔ crc16 g = packHalf lo hi := by
  have hrun : crc16 (g ++ [lo, hi]) = crcStep (crcStep (crc16 g) lo) hi := by simp [crc16]
  rw [hrun, crcStep_eq_zero_iff, crcStep_eq_high_byte_iff]

theorem covered_append_crc_bytes {f : List Byte} (h : 2 ≤ f.length) :
    f.take (f.length - 2) ++ [byteAt f (f.length - 2), byteAt f (f.length - 1)] = f := by
  obtain ⟨n, hn⟩ := Nat.exists_eq_add_of_le' h
  have hsplit : f.take n ++ [byteAt f n] ++ [byteAt f (n + 1)] = f := by
    rw [take_append_byteAt (by omega), take_append_byteAt (by omega), ← hn, List.take_length]
  rw [List.append_assoc] at hsplit
  rw [hn]
  exact hsplit

theorem crcOk_iff_receivedCrc {f : List Byte} :
    crcOk f = true ↔ crc16 (f.take (f.length - 2)) = receivedCrc f := beq_iff_eq

theorem crcOk_iff_residue_zero {f : List Byte} (h : 2 ≤ f.length) :
    crcOk f = true ↔ crc16 f = 0#16 := by
  rw [crcOk_iff_receivedCrc, receivedCrc, ← crc16_append_eq_zero_iff, covered_append_crc_bytes h]

theorem crcOk_append_crc16 (b : List Byte) :
    crcOk (b ++ [(crc16 b).extractLsb' 0 8, (crc16 b).extractLsb' 8 8]) = true := by
  rw [crcOk_iff_residue_zero (by simp), crc16_append_eq_zero_iff, packHalf_extractLsb']

/-- Settles O51: the first form is the definition read as numbers, the second the residue; the round
trip is the residue of the CRC's own bytes. -/
theorem crcCheckFormsAgreeAndRoundTrip : Obligations.CrcCheckFormsAgreeAndRoundTrip := by
  refine ⟨fun f h => ⟨?_, crcOk_iff_residue_zero h⟩, crcOk_append_crc16⟩
  rw [crcOk_iff_receivedCrc, receivedCrc, ← BitVec.toNat_inj, toNat_packHalf]

end Sys2Proof.Machine

/-!
Proof for 42_decoders.md: the port event CARD_REMOVED (R199).
-/
namespace Sys2Proof.Machine

theorem exec_cardRemoved (s : State) : exec .cardRemoved s = execCardRemoved s := rfl

/-- Settles O39: the row's meaning answers the state it was given (R199). The source has no action
for the event, so there is no case to tell apart. -/
theorem cardRemovedHasNoEffect : Obligations.CardRemovedHasNoEffect := by
  intro s
  rw [exec_cardRemoved, execCardRemoved]

end Sys2Proof.Machine

/-!
Proofs for 43_sequencer.md: a second DISCONNECT in a row (R240), and a CONNECT whose opens all fail
(R239).
-/
namespace Sys2Proof.Machine

/-! ### DISCONNECT -/

theorem exec_disconnect (s : State) : exec .disconnect s = .next (cmdDisconnect s) := rfl

/-- What R231's table says of where DISCONNECT leads. -/
theorem cmdDisconnect_seq (s : State) :
    (cmdDisconnect s).sess.seq = .idle ∨ (cmdDisconnect s).sess.seq = .aborting := by
  unfold cmdDisconnect
  split
  case h_1 h => exact .inl h
  case h_2 h => exact .inr h
  case h_4 => exact .inr rfl
  all_goals exact .inl rfl

/-- R231 in IDLE and ABORTING. -/
theorem cmdDisconnect_of_ended {s : State} (h : s.sess.seq = .idle ∨ s.sess.seq = .aborting) :
    cmdDisconnect s = s := by
  rcases h with h | h <;> simp only [cmdDisconnect, h]

/-- Settles O24: the first DISCONNECT leads to IDLE or ABORTING (`cmdDisconnect_seq`), and in these
states a DISCONNECT gives back the state it finds, whose pulses are those of a fresh step. -/
theorem secondDisconnectDoesNothing : Obligations.SecondDisconnectDoesNothing := by
  intro s
  have hseq := cmdDisconnect_seq s
  refine ⟨cmdDisconnect s, exec_disconnect s, hseq, ?_⟩
  exact congrArg Host.Outcome.next
    (cmdDisconnect_of_ended (s := beginStep (cmdDisconnect s).inputs (cmdDisconnect s)) hseq)

/-! ### One failed candidate -/

theorem exec_openRsp (ok : Bool) (err : BitVec 2) (s : State) :
    exec (.openRsp ok err) s = .next (onOpenRsp ok err s) := rfl

/-- R235: an open that fails is the failure of its candidate. -/
theorem onOpenRsp_failed {s : State} (err : BitVec 2) (h : s.sess.seq = .opening) :
    onOpenRsp false err s = failCand (openCause err) 0#4 s := by
  simp only [onOpenRsp, h, Bool.false_eq_true, if_false]

/-- What a failed candidate does to what CONNECT latched: only the index moves (R233). -/
theorem failCand_latched (cause : Cause) (step : BitVec 4) (s : State) :
    (failCand cause step s).sess.chan = s.sess.chan ∧
      (failCand cause step s).sess.cand = s.sess.cand ∧
      (failCand cause step s).sess.ncand = s.sess.ncand ∧
      (failCand cause step s).sess.ci = s.sess.ci + 1 := by
  by_cases h : s.sess.ci + 1 = s.sess.ncand
  · simp only [failCand, if_pos h, setIrq_sess, and_self]
  · simp only [failCand, if_neg h, emitOpen_sess, and_self]

/-- The last candidate's failure, and no other, sets CONN_FAILED (R233). -/
theorem failCand_log (cause : Cause) (step : BitVec 4) (s : State) :
    (failCand cause step s).log =
      if s.sess.ci + 1 = s.sess.ncand then { s.log with irq := s.log.irq ||| 0x002#10 }
      else s.log := by
  by_cases h : s.sess.ci + 1 = s.sess.ncand
  · simp only [failCand, if_pos h, setIrq_log]
    rfl
  · simp only [failCand, if_neg h, emitOpen_log]

/-! ### The attempt that one CONNECT starts -/

/-- The open request for candidate j of the list that a CONNECT in state `s` latches (R222,
R227). -/
def candRequest (fam : Family) (s : State) (j : Nat) : Byte × Word :=
  (s.regs.channel, (candidates fam s.regs).1.getD j 0#32)

/-- In `t` the attempt that a CONNECT in state `s` started awaits the answer for candidate j, and
has logged nothing. -/
structure AwaitsCandidate (fam : Family) (s : State) (j : Nat) (t : State) : Prop where
  seq : t.sess.seq = .opening
  chan : t.sess.chan = s.regs.channel
  cand : t.sess.cand = (candidates fam s.regs).1
  ncand : t.sess.ncand = (candidates fam s.regs).2
  ci : t.sess.ci.toNat = j
  log : t.log = s.log

/-- In `t` the attempt that a CONNECT in state `s` started has failed for good. -/
structure ConnFailed (s t : State) : Prop where
  seq : t.sess.seq = .failed
  log : t.log = { s.log with irq := s.log.irq ||| 0x002#10 }

section
variable {fam : Family} {s t : State} {j : Nat}

/-- The attempt does not depend on the pulses of the step before. -/
theorem AwaitsCandidate.after_beginStep (h : AwaitsCandidate fam s j t) (rest : List Input) :
    AwaitsCandidate fam s j (beginStep rest t) :=
  ⟨h.seq, h.chan, h.cand, h.ncand, h.ci, h.log⟩

/-- The index reaches the end of the list exactly on the last candidate. -/
theorem AwaitsCandidate.next_eq_ncand_iff (h : AwaitsCandidate fam s j t)
    (hj : j < (candidates fam s.regs).2.toNat) :
    t.sess.ci + 1 = t.sess.ncand ↔ j + 1 = (candidates fam s.regs).2.toNat := by
  rw [← h.ncand, ← h.ci] at *
  bv_omega

/-- A candidate's failure with another one left opens the next (R233). -/
theorem AwaitsCandidate.failCand_of_lt (h : AwaitsCandidate fam s j t)
    (hj : j + 1 < (candidates fam s.regs).2.toNat) (cause : Cause) (step : BitVec 4) :
    AwaitsCandidate fam s (j + 1) (failCand cause step t) ∧
      (failCand cause step t).ports.openReq = some (candRequest fam s (j + 1)) := by
  have hne : t.sess.ci + 1 ≠ t.sess.ncand := by
    rw [Ne, h.next_eq_ncand_iff (by omega)]
    omega
  have hci : (t.sess.ci + 1).toNat = j + 1 := by
    have := h.ci
    bv_omega
  obtain ⟨hchan, hcand, hncand, hidx⟩ := failCand_latched cause step t
  obtain ⟨he, -⟩ | ⟨-, hseq, hports⟩ := failCand_cases cause step t
  · exact absurd he hne
  · refine ⟨⟨hseq, hchan.trans h.chan, hcand.trans h.cand, hncand.trans h.ncand, hidx ▸ hci, ?_⟩,
      ?_⟩
    · rw [failCand_log, if_neg hne, h.log]
    · rw [hports, candAt, hci, h.chan, h.cand]
      rfl

/-- The last candidate's failure ends the attempt and pulses no open request (R233). -/
theorem AwaitsCandidate.failCand_of_last (h : AwaitsCandidate fam s j t)
    (hj : j + 1 = (candidates fam s.regs).2.toNat) (cause : Cause) (step : BitVec 4) :
    ConnFailed s (failCand cause step t) ∧
      (failCand cause step t).ports.openReq = t.ports.openReq := by
  have hlast : t.sess.ci + 1 = t.sess.ncand := (h.next_eq_ncand_iff (by omega)).2 hj
  obtain ⟨-, hseq, hports⟩ | ⟨hne, -⟩ := failCand_cases cause step t
  · refine ⟨⟨hseq, ?_⟩, by rw [hports]⟩
    rw [failCand_log, if_pos hlast, h.log]
  · exact absurd hlast hne

end

/-! ### CONNECT -/

theorem exec_connect (s : State) : exec .connect s = .next (cmdConnect s) := rfl

theorem familyOf_familyCode (fam : Family) : familyOf (familyCode fam) = some fam := by
  cases fam <;> rfl

/-- R226: what is not refused is connected. -/
theorem cmdConnect_of_accepted {fam : Family} {s : State}
    (hfam : s.regs.ctrl.family = familyCode fam) (ho : s.sess.seq ≠ .opening)
    (ha : s.sess.seq ≠ .aborting) : cmdConnect s = connect fam s := by
  simp only [cmdConnect, hfam, familyOf_familyCode, ho, ha, or_self, if_false]

/-- Ending a live session leaves the registers and the log alone (R229, R230). -/
theorem teardown_if_live_frame (s : State) :
    (if s.sess.seq.live then teardown s else s).regs = s.regs ∧
      (if s.sess.seq.live then teardown s else s).log = s.log := by
  split
  · rw [teardown_eq]
    exact ⟨rfl, rfl⟩
  · exact ⟨rfl, rfl⟩

/-- A CONNECT with a candidate to try opens the first one, whether or not it ends a live session
(R227, R229). -/
theorem connect_awaitsCandidate (fam : Family) (s : State) (h : (candidates fam s.regs).2 ≠ 0#4) :
    AwaitsCandidate fam s 0 (connect fam s) ∧
      (connect fam s).ports.openReq = some (candRequest fam s 0) := by
  obtain ⟨hregs, hlog⟩ := teardown_if_live_frame s
  simp only [connect]
  generalize (if s.sess.seq.live then teardown s else s) = u at hregs hlog
  have hn : (latchSession fam u).sess.ncand ≠ 0#4 := by rwa [← hregs] at h
  rw [if_neg hn, candRequest, ← hregs]
  exact ⟨⟨rfl, congrArg (·.channel) hregs, congrArg (candidates fam · |>.1) hregs,
    congrArg (candidates fam · |>.2) hregs, rfl, hlog⟩, rfl⟩

/-! ### The whole attempt -/

theorem openTrace_cons {i : Instr} {s t : State} (is : List Instr)
    (h : exec i (beginStep s.inputs s) = .next t) :
    openTrace (i :: is) s = (t.ports.openReq.toList ++ (openTrace is t).1, (openTrace is t).2) := by
  simp only [openTrace, h]

/-- A failing answer to the candidate awaited is one failed candidate, in a step of its own. -/
theorem AwaitsCandidate.exec_failedAnswer {fam : Family} {s t : State} {j : Nat}
    (h : AwaitsCandidate fam s j t) (err : BitVec 2) :
    exec (.openRsp false err) (beginStep t.inputs t) =
      .next (failCand (openCause err) 0#4 (beginStep t.inputs t)) := by
  rw [exec_openRsp, onOpenRsp_failed err (h.after_beginStep t.inputs).seq]

/-- From candidate j on, failing answers open the candidates after j in order, as far as the list
goes; the attempt fails for good on the answer that uses it up, and not before (R239). -/
theorem AwaitsCandidate.openTrace_failedAnswers {fam : Family} {s : State} (errs : List (BitVec 2))
    {j : Nat} {t : State} (h : AwaitsCandidate fam s j t) (hj : j < (candidates fam s.regs).2.toNat)
    (hle : j + errs.length ≤ (candidates fam s.regs).2.toNat) :
    let n := (candidates fam s.regs).2.toNat
    let r := openTrace (errs.map (.openRsp false)) t
    r.1 = (List.range' (j + 1) (min errs.length (n - (j + 1)))).map (candRequest fam s) ∧
      (j + errs.length < n → AwaitsCandidate fam s (j + errs.length) r.2) ∧
      (j + errs.length = n → ConnFailed s r.2) := by
  induction errs generalizing j t with
  | nil => exact ⟨by simp [openTrace], fun _ => h, fun he => absurd he hj.ne⟩
  | cons err errs ih =>
    rw [List.length_cons] at hle
    simp only [List.map_cons, List.length_cons, openTrace_cons _ (h.exec_failedAnswer err)]
    have hb := h.after_beginStep t.inputs
    rcases Nat.lt_or_ge (j + 1) (candidates fam s.regs).2.toNat with hmore | hlast
    · obtain ⟨hnext, hreq⟩ := hb.failCand_of_lt hmore (openCause err) 0#4
      obtain ⟨htrace, hwait, hfail⟩ := ih hnext hmore (by omega)
      have hmin : min (errs.length + 1) ((candidates fam s.regs).2.toNat - (j + 1)) =
          min errs.length ((candidates fam s.regs).2.toNat - (j + 1 + 1)) + 1 := by omega
      have hlen : j + (errs.length + 1) = j + 1 + errs.length := by omega
      rw [htrace, hreq, hmin, hlen, List.range'_succ]
      exact ⟨rfl, hwait, hfail⟩
    · obtain rfl : errs = [] := List.length_eq_zero_iff.1 (by omega)
      obtain ⟨hfail, hreq⟩ := hb.failCand_of_last (by omega) (openCause err) 0#4
      rw [hreq]
      refine ⟨?_, fun hlt => absurd hlt (by simpa using hlast), fun _ => hfail⟩
      simp [openTrace, Ports.quiet, Nat.sub_eq_zero_of_le hlast]

/-- Settles O37: CONNECT opens candidate 0 (`connect_awaitsCandidate`) and the failing answers the
rest of the list (`openTrace_failedAnswers`, an induction on the answers). -/
theorem everyCandidateIsTriedOnceInOrder : Obligations.EveryCandidateIsTriedOnceInOrder := by
  intro s fam errs m hfam ho ha _ hne hlen hm
  have hpos : 0 < errs.length := List.length_pos_iff.2 hne
  have htake : (errs.take m).length = m := List.length_take_of_le hm
  have hexec : exec .connect (beginStep s.inputs s) =
      .next (connect fam (beginStep s.inputs s)) := by
    rw [exec_connect, cmdConnect_of_accepted (s := beginStep s.inputs s) hfam ho ha]
  obtain ⟨hawait, hreq⟩ := connect_awaitsCandidate fam (beginStep s.inputs s) fun h0 => by
    rw [beginStep_regs] at h0
    rw [hlen, h0] at hpos
    exact absurd hpos (lt_irrefl _)
  obtain ⟨htrace, hwait, hfail⟩ := hawait.openTrace_failedAnswers (errs.take m)
    (by rw [beginStep_regs]; omega) (by rw [beginStep_regs, htake]; omega)
  rw [beginStep_regs, ← hlen, htake, Nat.zero_add] at htrace hwait hfail
  rw [openTrace_cons _ hexec, hreq]
  refine ⟨?_, fun h => ⟨(hwait h).seq, (hwait h).log⟩, fun h => ⟨(hfail h).seq, (hfail h).log⟩⟩
  have hmin : min (m + 1) errs.length = min m (errs.length - 1) + 1 := by omega
  rw [htrace, hmin, List.range_eq_range', List.range'_succ]
  rfl

end Sys2Proof.Machine

/-!
Proofs for 00_scope.md R12 and R13, 30_encoding.md, and 20_memory.md R71 and R74: one step, the items
of the operations and their decoding. The encoder and the decoder meet in the access that a BUS item
carries and in the row that the selectors of R106 name for a frame's bytes.
-/
namespace Sys2Proof.Machine

/-! ### One step -/

/-- Settles O1: the three cases of a step. -/
theorem stepRunsTheDecodedInstruction : Obligations.StepRunsTheDecodedInstruction :=
  ⟨fun _ _ _ _ h hd => step_of_decode_ok h hd, fun _ _ _ _ h hd => step_of_decode_error h hd,
    fun s h => by rw [step_of_inputs_nil h, beginStep, h]⟩

/-- Settles O2. The two frames are decoded through their checks, the other words by evaluation. -/
theorem wordsDecodeToTheirRows : Obligations.WordsDecodeToTheirRows := by
  intro sel
  have hcsum : csumOk [0xA0#8, 4#8, 1#8, 0x89#8, 0#8, 0#8, 0x8C#8] = true := by decide
  have hrow : selectB [0x05#8, 0x00#8, 0x01#8, 0xFB#8, 0xF2#8, 0x3D#8] = .inventory := by
    decide +kernel
  refine ⟨rfl, rfl, rfl, rfl, rfl, rfl, rfl, rfl, ?_, ?_, rfl, rfl⟩
  · simp [decode, decodeFrameA, selectA, hcsum, isFrameA, totalA, byteAt, Config.headerA]
  · simp [decode, decodeFrameB, hrow, isFrameB, totalB, byteAt, Config.bLenMin]

/-! ### CMD and BUS items -/

theorem decode_cmdInput (sel : Selectors) (op : BitVec 4) :
    decode sel (cmdInput op) = .ok (decodeOp op) := by
  have hop : (op.zeroExtend 32).extractLsb' 0 4 = op := by
    rw [BitVec.extractLsb'_setWidth_of_le (by omega), BitVec.extractLsb'_eq_self]
  show Except.ok (decodeOp ((packWord _ _ _ _).extractLsb' 0 4)) = _
  rw [packWord_lanes, hop]

/-- The offset of an access word is its two bytes' low 12 bits (opcode_table.json). -/
theorem accessWord_addr (w : BitVec 16) :
    (w.extractLsb' 8 8).extractLsb' 0 4 ++ w.extractLsb' 0 8 = w.extractLsb' 0 12 := by
  have hhigh : (w.extractLsb' 8 8).extractLsb' 0 4 = w.extractLsb' 8 4 := by
    apply BitVec.eq_of_toNat_eq
    simp
  rw [hhigh]
  exact BitVec.extractLsb'_append_extractLsb'_eq_extractLsb' (start₁ := 0) (len₁ := 8) rfl

/-- Bit 12 of an access word is its direction (opcode_table.json). -/
theorem accessWord_dir (we : Bool) (addr : Offset) :
    ((0#3 ++ BitVec.ofBool we ++ addr : BitVec 16).extractLsb' 8 8).getLsbD 4 = we := by
  rw [BitVec.getLsbD_extractLsb', BitVec.getLsbD_append]
  cases we <;> rfl

/-- A BUS item carries the access it was made of. -/
theorem decode_busItem (sel : Selectors) (acc : BusAccess) :
    decode sel ⟨.bus, busItem acc⟩ = .ok (decodeBus acc) := by
  obtain ⟨we, size, addr, wdata⟩ := acc
  have hsize : (size.zeroExtend 8).extractLsb' 0 2 = size := by
    rw [BitVec.extractLsb'_setWidth_of_le (by omega), BitVec.extractLsb'_eq_self]
  show Except.ok (decodeBus ⟨((0#3 ++ BitVec.ofBool we ++ addr).extractLsb' 8 8).getLsbD 4,
    (size.zeroExtend 8).extractLsb' 0 2,
    ((0#3 ++ BitVec.ofBool we ++ addr).extractLsb' 8 8).extractLsb' 0 4 ++
      (0#3 ++ BitVec.ofBool we ++ addr).extractLsb' 0 8, packWord _ _ _ _⟩) = _
  rw [packWord_lanes, accessWord_dir, accessWord_addr, hsize, BitVec.extractLsb'_append_eq_right]

theorem refused_eq_false_iff {acc : BusAccess} :
    acc.refused = false ↔ acc.size = Config.busSizeWord ∧ acc.addr.toNat % 4 = 0 := by
  simp [BusAccess.refused]

theorem decodeBus_of_refused {acc : BusAccess} (h : acc.refused = true) :
    decodeBus acc = .busError acc := by
  rw [decodeBus, if_pos h]

theorem decode_readInput (sel : Selectors) {off : Offset} (h : off.toNat % 4 = 0) :
    decode sel (readInput off) = .ok (decodeRead off 0#32) := by
  rw [readInput, decode_busItem, decodeBus, refused_eq_false_iff.2 ⟨rfl, h⟩]
  rfl

theorem decode_writeInput (sel : Selectors) {off : Offset} (v : Word) (h : off.toNat % 4 = 0) :
    decode sel (writeInput off v) = .ok (decodeWrite off v) := by
  rw [writeInput, decode_busItem, decodeBus, refused_eq_false_iff.2 ⟨rfl, h⟩]
  rfl

/-! ### The ranges of the window (10_state.md R23, 20_memory.md R74) -/

theorem decodeRead_of_evtData {off : Offset} (v : Word)
    (h : 0x400 ≤ off.toNat ∧ off.toNat < 0x500) :
    decodeRead off v = .rdEvtData (evtDataIndex off) := by
  unfold decodeRead
  split
  case h_32 => rw [if_neg (by omega), if_neg (by omega), if_pos h]
  all_goals omega

theorem decodeWrite_of_baudCand {off : Offset} (v : Word)
    (h : 0x080 ≤ off.toNat ∧ off.toNat < 0x0A0) :
    decodeWrite off v = .wrBaudCand (candIndex off) v := by
  unfold decodeWrite
  split
  case h_32 => exact if_pos h
  all_goals omega

theorem decodeWrite_of_initScript {off : Offset} (v : Word)
    (h : 0x100 ≤ off.toNat ∧ off.toNat < 0x200) :
    decodeWrite off v = .wrInitScript (scriptIndex off) (scriptWord off) v := by
  unfold decodeWrite
  split
  case h_32 => rw [if_neg (by omega), if_pos h]
  all_goals omega

theorem decodeWrite_of_evtData {off : Offset} (v : Word)
    (h : 0x400 ≤ off.toNat ∧ off.toNat < 0x500) :
    decodeWrite off v = .wrRoRegister (.evtData (evtDataIndex off)) v := by
  unfold decodeWrite
  split
  case h_32 => rw [if_neg (by omega), if_neg (by omega), if_pos h]
  all_goals omega

theorem unlistedWord_iff {off : Offset} :
    unlistedWord off = true ↔ off.toNat % 4 = 0 ∧
      (off.toNat = 0x07C ∨ (0x0A0 ≤ off.toNat ∧ off.toNat ≤ 0x0FC) ∨
        (0x200 ≤ off.toNat ∧ off.toNat ≤ 0x3FC) ∨ (0x500 ≤ off.toNat ∧ off.toNat ≤ 0xFFC)) := by
  simp [unlistedWord, or_assoc]

theorem decodeRead_of_unlisted {off : Offset} (v : Word) (h : unlistedWord off = true) :
    decodeRead off v = .unlistedOffset false off v := by
  rw [unlistedWord_iff] at h
  have notCand : ¬(0x080 ≤ off.toNat ∧ off.toNat < 0x0A0) := by omega
  have notScript : ¬(0x100 ≤ off.toNat ∧ off.toNat < 0x200) := by omega
  have notEvtData : ¬(0x400 ≤ off.toNat ∧ off.toNat < 0x500) := by omega
  unfold decodeRead
  split
  case h_32 => rw [if_neg notCand, if_neg notScript, if_neg notEvtData]
  all_goals omega

theorem decodeWrite_of_unlisted {off : Offset} (v : Word) (h : unlistedWord off = true) :
    decodeWrite off v = .unlistedOffset true off v := by
  rw [unlistedWord_iff] at h
  have notCand : ¬(0x080 ≤ off.toNat ∧ off.toNat < 0x0A0) := by omega
  have notScript : ¬(0x100 ≤ off.toNat ∧ off.toNat < 0x200) := by omega
  have notEvtData : ¬(0x400 ≤ off.toNat ∧ off.toNat < 0x500) := by omega
  unfold decodeWrite
  split
  case h_32 => rw [if_neg notCand, if_neg notScript, if_neg notEvtData]
  all_goals omega

/-- What a word offset decodes to has operands its encoding can carry: an offset outside every row is
one that R74 calls unlisted. -/
theorem decodeRead_wellFormed {off : Offset} (v : Word) (h : off.toNat % 4 = 0) :
    (decodeRead off v).wellFormed = true := by
  have := off.isLt
  unfold decodeRead
  split
  case h_32 =>
    simp only [imp_false] at *
    split
    · rfl
    · split
      · rfl
      · split
        · rfl
        · exact unlistedWord_iff.2 (by omega)
  all_goals rfl

theorem decodeWrite_wellFormed {off : Offset} (v : Word) (h : off.toNat % 4 = 0) :
    (decodeWrite off v).wellFormed = true := by
  have := off.isLt
  unfold decodeWrite
  split
  case h_32 =>
    simp only [imp_false] at *
    split
    · rfl
    · split
      · rfl
      · split
        · rfl
        · exact unlistedWord_iff.2 (by omega)
  all_goals rfl

/-! ### The array rows' offsets (30_encoding.md R112) -/

theorem baudCandOffset_spec (n : BitVec 3) :
    0x080 ≤ (baudCandOffset n).toNat ∧ (baudCandOffset n).toNat < 0x0A0 ∧
      (baudCandOffset n).toNat % 4 = 0 ∧ candIndex (baudCandOffset n) = n := by
  revert n
  decide

theorem initScriptOffset_spec (k w : BitVec 3) :
    0x100 ≤ (initScriptOffset k w).toNat ∧ (initScriptOffset k w).toNat < 0x200 ∧
      (initScriptOffset k w).toNat % 4 = 0 ∧ scriptIndex (initScriptOffset k w) = k ∧
      scriptWord (initScriptOffset k w) = w := by
  revert k w
  decide

theorem evtDataOffset_spec (w : BitVec 6) :
    0x400 ≤ (evtDataOffset w).toNat ∧ (evtDataOffset w).toNat < 0x500 ∧
      (evtDataOffset w).toNat % 4 = 0 ∧ evtDataIndex (evtDataOffset w) = w := by
  revert w
  decide

theorem decode_readInput_baudCand (sel : Selectors) (n : BitVec 3) :
    decode sel (readInput (baudCandOffset n)) = .ok (.rdBaudCand n) := by
  obtain ⟨hge, hlt, halign, hn⟩ := baudCandOffset_spec n
  rw [decode_readInput sel halign, decodeRead_of_baudCand _ ⟨hge, hlt⟩, hn]

theorem decode_writeInput_baudCand (sel : Selectors) (n : BitVec 3) (v : Word) :
    decode sel (writeInput (baudCandOffset n) v) = .ok (.wrBaudCand n v) := by
  obtain ⟨hge, hlt, halign, hn⟩ := baudCandOffset_spec n
  rw [decode_writeInput sel v halign, decodeWrite_of_baudCand _ ⟨hge, hlt⟩, hn]

theorem decode_readInput_initScript (sel : Selectors) (k w : BitVec 3) :
    decode sel (readInput (initScriptOffset k w)) = .ok (.rdInitScript k w) := by
  obtain ⟨hge, hlt, halign, hk, hw⟩ := initScriptOffset_spec k w
  rw [decode_readInput sel halign, decodeRead_of_initScript _ ⟨hge, hlt⟩, hk, hw]

theorem decode_writeInput_initScript (sel : Selectors) (k w : BitVec 3) (v : Word) :
    decode sel (writeInput (initScriptOffset k w) v) = .ok (.wrInitScript k w v) := by
  obtain ⟨hge, hlt, halign, hk, hw⟩ := initScriptOffset_spec k w
  rw [decode_writeInput sel v halign, decodeWrite_of_initScript _ ⟨hge, hlt⟩, hk, hw]

theorem decode_readInput_evtData (sel : Selectors) (w : BitVec 6) :
    decode sel (readInput (evtDataOffset w)) = .ok (.rdEvtData w) := by
  obtain ⟨hge, hlt, halign, hw⟩ := evtDataOffset_spec w
  rw [decode_readInput sel halign, decodeRead_of_evtData _ ⟨hge, hlt⟩, hw]

theorem decode_readInput_woReg (sel : Selectors) (r : WoReg) :
    decode sel (readInput r.offset) = .ok (.rdWoRegister r) := by
  cases r <;> exact decode_readInput sel (by decide)

theorem decode_writeInput_roReg (sel : Selectors) (r : RoReg) (v : Word) :
    decode sel (writeInput r.offset v) = .ok (.wrRoRegister r v) := by
  cases r with
  | evtData w =>
    obtain ⟨hge, hlt, halign, hw⟩ := evtDataOffset_spec w
    have hdecode := decode_writeInput sel v halign
    rwa [decodeWrite_of_evtData _ ⟨hge, hlt⟩, hw] at hdecode
  | _ => exact decode_writeInput sel v (by decide)

/-- The item of an access of an offset R23 does not list. -/
theorem decode_unlisted (sel : Selectors) (we : Bool) {off : Offset} (v : Word)
    (h : unlistedWord off = true) :
    decode sel ⟨.bus, busItem ⟨we, Config.busSizeWord, off, v⟩⟩ =
      .ok (.unlistedOffset we off v) := by
  rw [decode_busItem, decodeBus, refused_eq_false_iff.2 ⟨rfl, (unlistedWord_iff.1 h).1⟩]
  cases we with
  | false => exact congrArg Except.ok (decodeRead_of_unlisted v h)
  | true => exact congrArg Except.ok (decodeWrite_of_unlisted v h)

/-! ### Accesses that have no register -/

theorem exec_busError (acc : BusAccess) (s : State) :
    exec (.busError acc) s = .next (raiseBusError s) := rfl

theorem exec_unlistedOffset (we : Bool) (off : Offset) (v : Word) (s : State) :
    exec (.unlistedOffset we off v) s = .next (if we then s else busReturn 0#32 s) := rfl

/-- Settles O10: the two items decode to UNLISTED_OFFSET, which answers 0 or nothing. -/
theorem unlistedOffsetsReadZeroAndIgnoreWrites :
    Obligations.UnlistedOffsetsReadZeroAndIgnoreWrites := by
  intro s rest off v halign hrange
  have hoff : unlistedWord off = true := unlistedWord_iff.2 ⟨halign, hrange⟩
  refine ⟨?_, ?_, ⟨0#32, rfl, rfl⟩, rfl⟩
  · rw [step_of_decode_ok rfl (decode_unlisted _ false 0#32 hoff), exec_unlistedOffset]
    rfl
  · rw [step_of_decode_ok rfl (decode_unlisted _ true v hoff), exec_unlistedOffset]
    rfl

/-- Settles O11: a refused access decodes to BUS_ERROR before its direction or offset is looked at. -/
theorem refusedAccessesChangeNoState : Obligations.RefusedAccessesChangeNoState := by
  intro s rest acc h
  have hrefused : acc.refused = true := by
    rw [← Bool.not_eq_false, refused_eq_false_iff]
    tauto
  refine ⟨?_, rfl⟩
  rw [step_of_decode_ok rfl (decode_busItem _ acc), decodeBus_of_refused hrefused, exec_busError]
  rfl

end Sys2Proof.Machine

/-!
Proofs for 30_encoding.md R90 to R106: the encoder and the decoder agree. Whole frames and responses
are followed through the row that the selectors of R106 name for their bytes.
-/
namespace Sys2Proof.Machine

/-! ### Family A and B frames -/

/-- The operation of a family A row (30_encoding.md R106). -/
def instrOfRowA (f : List Byte) : RowA → Instr
  | .frameError => .aFrameError f
  | .strictDrop => .aStrictDrop f
  | .inventory => .aInventory f
  | .buffer => .aBuffer f
  | .ack => .aAck f

/-- The operation of a family B row (30_encoding.md R106). -/
def instrOfRowB (f : List Byte) : RowB → Instr
  | .crcDrop => .bCrcDrop f
  | .inventory => .bInventory f
  | .ack => .bAck f

theorem decode_frameA (sel : Selectors) {f : List Byte} (h : isFrameA f = true) :
    decode sel ⟨.frameA, f⟩ = .ok (instrOfRowA f (selectA sel f)) := by
  show decodeFrameA sel f = _
  rw [decodeFrameA, if_pos h]
  cases selectA sel f <;> rfl

theorem decode_frameB (sel : Selectors) {f : List Byte} (h : isFrameB f = true) :
    decode sel ⟨.frameB, f⟩ = .ok (instrOfRowB f (selectB f)) := by
  show decodeFrameB f = _
  rw [decodeFrameB, if_pos h]
  cases selectB f <;> rfl

/-- A decoded family A item is one frame, and the operation of its row. -/
theorem of_decode_frameA {sel : Selectors} {f : List Byte} {i : Instr}
    (h : decode sel ⟨.frameA, f⟩ = .ok i) :
    isFrameA f = true ∧ i = instrOfRowA f (selectA sel f) := by
  by_cases hf : isFrameA f = true
  · exact ⟨hf, (Except.ok.inj ((decode_frameA sel hf).symm.trans h)).symm⟩
  · simp [decode, decodeFrameA, hf] at h

theorem of_decode_frameB {sel : Selectors} {f : List Byte} {i : Instr}
    (h : decode sel ⟨.frameB, f⟩ = .ok i) :
    isFrameB f = true ∧ i = instrOfRowB f (selectB f) := by
  by_cases hf : isFrameB f = true
  · exact ⟨hf, (Except.ok.inj ((decode_frameB sel hf).symm.trans h)).symm⟩
  · simp [decode, decodeFrameB, hf] at h

theorem encode_instrOfRowA (f : List Byte) (r : RowA) : encode (instrOfRowA f r) = ⟨.frameA, f⟩ := by
  cases r <;> rfl

theorem encode_instrOfRowB (f : List Byte) (r : RowB) : encode (instrOfRowB f r) = ⟨.frameB, f⟩ := by
  cases r <;> rfl

theorem selectA_eq_frameError_iff {sel : Selectors} {f : List Byte} :
    selectA sel f = .frameError ↔ (byteAt f 1).toNat < 2 := by
  unfold selectA
  split_ifs <;> simp_all

theorem selectA_eq_strictDrop_iff {sel : Selectors} {f : List Byte} :
    selectA sel f = .strictDrop ↔
      2 ≤ (byteAt f 1).toNat ∧ csumOk f = false ∧ sel.strictA = true := by
  unfold selectA
  split_ifs <;> simp_all
  omega

/-- The bytes of a selected row meet the parts of its selector that they alone decide. -/
theorem instrOfRowA_wellFormed (sel : Selectors) {f : List Byte} (h : isFrameA f = true) :
    (instrOfRowA f (selectA sel f)).wellFormed = true := by
  have herr := selectA_eq_frameError_iff (sel := sel) (f := f)
  have hdrop := selectA_eq_strictDrop_iff (sel := sel) (f := f)
  cases hrow : selectA sel f with
  | frameError => simp [instrOfRowA, Instr.wellFormed, h, herr.1 hrow]
  | strictDrop => simp [instrOfRowA, Instr.wellFormed, h, (hdrop.1 hrow).1, (hdrop.1 hrow).2.1]
  | inventory | buffer | ack =>
    have hlen : 2 ≤ (byteAt f 1).toNat := by
      rw [← Nat.not_lt, ← herr, hrow]
      exact RowA.noConfusion
    simp [instrOfRowA, Instr.wellFormed, h, hlen]

theorem instrOfRowA_selected (sel : Selectors) (f : List Byte) :
    (instrOfRowA f (selectA sel f)).selected sel = true := by
  cases hrow : selectA sel f <;> simp [instrOfRowA, Instr.selected, hrow]

theorem instrOfRowB_wellFormed {f : List Byte} (h : isFrameB f = true) :
    (instrOfRowB f (selectB f)).wellFormed = true := by
  cases hrow : selectB f <;> simp [instrOfRowB, Instr.wellFormed, h, hrow]

theorem instrOfRowB_selected (sel : Selectors) (f : List Byte) (r : RowB) :
    (instrOfRowB f r).selected sel = true := by
  cases r <;> rfl

/-! ### PC-SC responses (R102) -/

/-- The operation of a PC-SC row (30_encoding.md R106). -/
def instrOfRowPcsc (r : List Byte) : RowPcsc → Instr
  | .frameError => .pcscFrameError r
  | .noTags => .pcscNotags
  | .tag => .pcscTag (uidOf r)
  | .protoError => .pcscProtoError r

/-- The row of a whole response: only what the buffer of 258 bytes holds is looked at, and bytes are
lost when there are more (40_assembler.md R145). -/
def responseRow (r : List Byte) : RowPcsc :=
  selectPcsc (r.take 258) (decide (258 < r.length))

theorem decode_response (sel : Selectors) {r : List Byte} (h : r ≠ []) :
    decode sel ⟨.apduResponse, r⟩ = .ok (instrOfRowPcsc r (responseRow r)) := by
  show decodeResponse r = .ok (instrOfRowPcsc r (selectPcsc (r.take Config.pcscMax)
    (Config.pcscMax < r.length)))
  rw [decodeResponse, if_neg h]
  cases selectPcsc (r.take Config.pcscMax) (Config.pcscMax < r.length) <;> rfl

theorem of_decode_response {sel : Selectors} {r : List Byte} {i : Instr}
    (h : decode sel ⟨.apduResponse, r⟩ = .ok i) :
    r ≠ [] ∧ i = instrOfRowPcsc r (responseRow r) := by
  by_cases hr : r = []
  · simp [decode, decodeResponse, hr] at h
  · exact ⟨hr, (Except.ok.inj ((decode_response sel hr).symm.trans h)).symm⟩

/-- A response's status word is its last two bytes (R102). -/
theorem statusWord_append (r : List Byte) (sw1 sw2 : Byte) :
    statusWord (r ++ [sw1, sw2]) = sw1 ++ sw2 := by
  simp [statusWord, byteAt]

theorem append_eq_swSuccess_iff {sw1 sw2 : Byte} :
    sw1 ++ sw2 = Config.swSuccess ↔ sw1 = 0x90#8 ∧ sw2 = 0x00#8 := by
  constructor
  · intro h
    exact ⟨by rw [← BitVec.extractLsb'_append_eq_left (a := sw1) (b := sw2), h]; rfl,
      by rw [← BitVec.extractLsb'_append_eq_right (a := sw1) (b := sw2), h]; rfl⟩
  · rintro ⟨rfl, rfl⟩
    rfl

theorem uidOf_append (uid : List Byte) (sw1 sw2 : Byte) : uidOf (uid ++ [sw1, sw2]) = uid := by
  simp [uidOf]

/-- A response of two bytes or more is its UID and its status bytes. -/
theorem exists_append_statusBytes {r : List Byte} (h : 2 ≤ r.length) :
    ∃ (uid : List Byte) (sw1 sw2 : Byte), r = uid ++ [sw1, sw2] :=
  ⟨_, _, _, (covered_append_crc_bytes h).symm⟩

theorem responseRow_of_bad_length {r : List Byte} (h : r.length < 2 ∨ 258 < r.length) :
    responseRow r = .frameError := by
  rw [responseRow, selectPcsc, if_pos]
  rcases h with h | h <;> simp <;> omega

/-- The row of a response of 2 to 258 bytes (R106). -/
theorem responseRow_append {uid : List Byte} {sw1 sw2 : Byte} (h : uid.length ≤ 256) :
    responseRow (uid ++ [sw1, sw2]) =
      if sw1 = 0x90#8 ∧ sw2 = 0x00#8 then (if uid = [] then .noTags else .tag)
      else .protoError := by
  have htake : (uid ++ [sw1, sw2]).take 258 = uid ++ [sw1, sw2] :=
    List.take_of_length_le (by simp; omega)
  have hshort : ¬(decide (258 < (uid ++ [sw1, sw2]).length) = true ∨
      (uid ++ [sw1, sw2]).length < 2) := by simp; omega
  rw [responseRow, htake, selectPcsc, if_neg (by simpa using hshort), statusWord_append]
  simp [append_eq_swSuccess_iff]

theorem wellFormed_pcscFrameError_iff {r : List Byte} :
    (Instr.pcscFrameError r).wellFormed = true ↔ r.length = 1 ∨ 258 < r.length := by
  simp only [Instr.wellFormed, Bool.or_eq_true, beq_iff_eq, decide_eq_true_eq]
  exact Iff.rfl

theorem wellFormed_pcscTag_iff {uid : List Byte} :
    (Instr.pcscTag uid).wellFormed = true ↔ uid ≠ [] ∧ uid.length ≤ 256 := by
  simp only [Instr.wellFormed, Bool.and_eq_true, decide_eq_true_eq, ← List.length_pos_iff]
  exact Iff.rfl

theorem wellFormed_pcscProtoError_iff {r : List Byte} :
    (Instr.pcscProtoError r).wellFormed = true ↔
      2 ≤ r.length ∧ r.length ≤ 258 ∧ statusWord r ≠ Config.swSuccess := by
  simp only [Instr.wellFormed, Bool.and_eq_true, decide_eq_true_eq, bne_iff_ne, and_assoc]
  exact Iff.rfl

/-- A response row's operation is well formed, and its item is the response. -/
theorem instrOfRowPcsc_spec {r : List Byte} (h : r ≠ []) :
    (instrOfRowPcsc r (responseRow r)).wellFormed = true ∧
      encode (instrOfRowPcsc r (responseRow r)) = ⟨.apduResponse, r⟩ := by
  have hpos : 0 < r.length := List.length_pos_iff.2 h
  by_cases hlen : r.length < 2 ∨ 258 < r.length
  · rw [responseRow_of_bad_length hlen]
    exact ⟨wellFormed_pcscFrameError_iff.2 (by omega), rfl⟩
  · obtain ⟨uid, sw1, sw2, rfl⟩ := exists_append_statusBytes (r := r) (by omega)
    have huid : uid.length ≤ 256 := by simp at hlen; omega
    rw [responseRow_append huid]
    split
    case isTrue hsw =>
      obtain ⟨rfl, rfl⟩ := hsw
      split
      case isTrue hnil =>
        subst hnil
        exact ⟨rfl, rfl⟩
      case isFalse hne =>
        rw [instrOfRowPcsc, uidOf_append]
        exact ⟨wellFormed_pcscTag_iff.2 ⟨hne, huid⟩, rfl⟩
    case isFalse hsw =>
      have hword : statusWord (uid ++ [sw1, sw2]) ≠ Config.swSuccess := by
        rwa [statusWord_append, Ne, append_eq_swSuccess_iff]
      exact ⟨wellFormed_pcscProtoError_iff.2 ⟨by simp, by simp; omega, hword⟩, rfl⟩

theorem instrOfRowPcsc_selected (sel : Selectors) (r : List Byte) (row : RowPcsc) :
    (instrOfRowPcsc r row).selected sel = true := by
  cases row <;> rfl

/-- A well-formed response operation is the one of its item's row. -/
theorem decode_response_append (sel : Selectors) {uid : List Byte} {sw1 sw2 : Byte}
    (h : uid.length ≤ 256) :
    decode sel ⟨.apduResponse, uid ++ [sw1, sw2]⟩ =
      .ok (if sw1 = 0x90#8 ∧ sw2 = 0x00#8 then (if uid = [] then .pcscNotags else .pcscTag uid)
        else .pcscProtoError (uid ++ [sw1, sw2])) := by
  rw [decode_response sel (by simp), responseRow_append h]
  split
  · split
    · rfl
    · rw [instrOfRowPcsc, uidOf_append]
  · rfl

theorem decode_response_of_bad_length (sel : Selectors) {r : List Byte}
    (h : r.length = 1 ∨ 258 < r.length) :
    decode sel ⟨.apduResponse, r⟩ = .ok (.pcscFrameError r) := by
  have hne : r ≠ [] := List.length_pos_iff.1 (by omega)
  rw [decode_response sel hne, responseRow_of_bad_length (by omega)]
  rfl

/-! ### Strobes and beats -/

theorem decodePort_rxByte (b : Byte) (last : Bool) :
    decodePort [0#8, b, (BitVec.ofBool last).zeroExtend 8] = .ok (.rxByte b last) := by
  cases last <;> rfl

theorem decodePort_openRsp (ok : Bool) (err : BitVec 2) :
    decodePort [2#8, (BitVec.ofBool ok).zeroExtend 8, err.zeroExtend 8] = .ok (.openRsp ok err) := by
  have herr : (err.zeroExtend 8).extractLsb' 0 2 = err := by
    rw [BitVec.extractLsb'_setWidth_of_le (by omega), BitVec.extractLsb'_eq_self]
  show Except.ok (Instr.openRsp (((BitVec.ofBool ok).zeroExtend 8).getLsbD 0)
    ((err.zeroExtend 8).extractLsb' 0 2)) = _
  rw [herr]
  cases ok <;> rfl

/-! ### The statements -/

/-- Settles O3, by the format of the operation's row. -/
theorem decodeOfEncodeGivesItBack : Obligations.DecodeOfEncodeGivesItBack := by
  intro sel i hwf hsel
  cases i with
  | nop | connect | disconnect | flushRx | crcInit | xorInit | evtPop | clrCounters | txFlush
  | reserved9 | reservedA | reservedB | reservedC | reservedD | reservedE | reservedF =>
    exact decode_cmdInput sel _
  | rdId | rdCtrl | rdStatus | rdIrqStatus | rdIrqEn | rdChannel | rdBaudCount | rdBaudOverride
  | rdChosenBaud | rdLastErr | rdSeqTimeout | rdACmdSel | rdInitCount | rdCrcValue | rdXorValue
  | rdTxLevel | rdCntFrames | rdCntCsumErr | rdCntFrameErr | rdCntProtoErr | rdCntEvtOvf
  | rdCntPartial | rdCntDiscard | rdLastProtoCode | rdEvtLevel | rdEvtHead | rdEvtAux =>
    exact decode_readInput sel (by decide)
  | wrCtrl | wrCmd | wrIrqStatus | wrIrqEn | wrChannel | wrBaudCount | wrBaudOverride
  | wrSeqTimeout | wrACmdSel | wrInitCount | wrCrcValue | wrCrcData | wrXorValue | wrXorData
  | wrTxData => exact decode_writeInput sel _ (by decide)
  | rdBaudCand n => exact decode_readInput_baudCand sel n
  | wrBaudCand n v => exact decode_writeInput_baudCand sel n v
  | rdInitScript k w => exact decode_readInput_initScript sel k w
  | wrInitScript k w v => exact decode_writeInput_initScript sel k w v
  | rdEvtData w => exact decode_readInput_evtData sel w
  | rdWoRegister r => exact decode_readInput_woReg sel r
  | wrRoRegister r v => exact decode_writeInput_roReg sel r v
  | unlistedOffset we off v => exact decode_unlisted sel we v hwf
  | busError acc => exact (decode_busItem sel acc).trans (congrArg _ (decodeBus_of_refused hwf))
  | rxByte b last => exact decodePort_rxByte b last
  | openRsp ok err => exact decodePort_openRsp ok err
  | txBeat | tick | cardPresent | cardRemoved | xferErr | reset => rfl
  | aFrameError f | aStrictDrop f | aInventory f | aBuffer f | aAck f =>
    simp only [Instr.wellFormed, Bool.and_eq_true] at hwf
    simp only [Instr.selected, beq_iff_eq] at hsel
    have hframe : isFrameA f = true := by tauto
    exact (decode_frameA sel hframe).trans (by rw [hsel]; rfl)
  | bCrcDrop f | bInventory f | bAck f =>
    simp only [Instr.wellFormed, Bool.and_eq_true, beq_iff_eq] at hwf
    exact (decode_frameB sel hwf.1).trans (by rw [hwf.2]; rfl)
  | pcscGetUid | pcscNotags => rfl
  | pcscFrameError r => exact decode_response_of_bad_length sel (wellFormed_pcscFrameError_iff.1 hwf)
  | pcscTag uid =>
    obtain ⟨hne, hlen⟩ := wellFormed_pcscTag_iff.1 hwf
    exact (decode_response_append sel hlen).trans (by simp [hne])
  | pcscProtoError r =>
    obtain ⟨hmin, hmax, hword⟩ := wellFormed_pcscProtoError_iff.1 hwf
    obtain ⟨uid, sw1, sw2, rfl⟩ := exists_append_statusBytes hmin
    rw [statusWord_append, Ne, append_eq_swSuccess_iff] at hword
    exact (decode_response_append sel (by simpa using hmax)).trans (by rw [if_neg hword])

/-- A command row is well formed, and no register selects it. -/
theorem decodeOp_spec (sel : Selectors) (op : BitVec 4) :
    (decodeOp op).wellFormed = true ∧ (decodeOp op).selected sel = true := by
  unfold decodeOp
  split <;> exact ⟨rfl, rfl⟩

theorem decodeRead_selected (sel : Selectors) (off : Offset) (v : Word) :
    (decodeRead off v).selected sel = true := by
  unfold decodeRead
  split
  case h_32 => split_ifs <;> rfl
  all_goals rfl

theorem decodeWrite_selected (sel : Selectors) (off : Offset) (v : Word) :
    (decodeWrite off v).selected sel = true := by
  unfold decodeWrite
  split
  case h_32 => split_ifs <;> rfl
  all_goals rfl

/-- A bus row is well formed, and no register selects it. -/
theorem decodeBus_spec (sel : Selectors) (acc : BusAccess) :
    (decodeBus acc).wellFormed = true ∧ (decodeBus acc).selected sel = true := by
  rw [decodeBus]
  cases hrefused : acc.refused with
  | true => exact ⟨hrefused, rfl⟩
  | false =>
    have halign := (refused_eq_false_iff.1 hrefused).2
    cases acc.we with
    | true => exact ⟨decodeWrite_wellFormed _ halign, decodeWrite_selected sel _ _⟩
    | false => exact ⟨decodeRead_wellFormed _ halign, decodeRead_selected sel _ _⟩

/-- A strobe is well formed, and no register selects it. -/
theorem decodePort_spec (sel : Selectors) {bytes : List Byte} {i : Instr}
    (h : decodePort bytes = .ok i) : i.wellFormed = true ∧ i.selected sel = true := by
  unfold decodePort at h
  split at h
  · split_ifs at h <;> cases h <;> exact ⟨rfl, rfl⟩
  · split_ifs at h <;> cases h <;> exact ⟨rfl, rfl⟩
  · cases h

/-- Settles O4, by the item's format. -/
theorem decoderAcceptsOnlyWhatTheTablesGive :
    Obligations.DecoderAcceptsOnlyWhatTheTablesGive := by
  rintro sel ⟨fmt, bytes⟩ i h
  cases fmt with
  | cmd =>
    simp only [decode] at h
    split at h
    · cases h
      obtain ⟨hwf, hsel⟩ := decodeOp_spec sel _
      exact ⟨hwf, hsel, by simp⟩
    · cases h
  | bus =>
    simp only [decode] at h
    split at h
    · cases h
      obtain ⟨hwf, hsel⟩ := decodeBus_spec sel _
      exact ⟨hwf, hsel, by simp⟩
    · cases h
  | port =>
    obtain ⟨hwf, hsel⟩ := decodePort_spec sel h
    exact ⟨hwf, hsel, by simp⟩
  | frameA =>
    obtain ⟨hframe, rfl⟩ := of_decode_frameA h
    exact ⟨instrOfRowA_wellFormed sel hframe, instrOfRowA_selected sel bytes,
      fun _ => encode_instrOfRowA bytes _⟩
  | frameB =>
    obtain ⟨hframe, rfl⟩ := of_decode_frameB h
    exact ⟨instrOfRowB_wellFormed hframe, instrOfRowB_selected sel bytes _,
      fun _ => encode_instrOfRowB bytes _⟩
  | apduCommand =>
    simp only [decode] at h
    split at h
    · rename_i hbytes
      cases h
      exact ⟨rfl, rfl, fun _ => by rw [hbytes]; rfl⟩
    · cases h
  | apduResponse =>
    obtain ⟨hne, rfl⟩ := of_decode_response h
    obtain ⟨hwf, henc⟩ := instrOfRowPcsc_spec hne
    exact ⟨hwf, instrOfRowPcsc_selected sel bytes _, fun _ => henc⟩

end Sys2Proof.Machine

/-!
Proofs for 10_state.md sections 2 to 4, 20_memory.md R72 and 60_exceptions.md R310: what the registers
read. A word made of fields is read as the sum of the fields at their places.
-/
namespace Sys2Proof.Machine

/-! ### Words made of fields -/

/-- The value of two fields side by side. -/
theorem toNat_append_eq_add {m n : Nat} (x : BitVec m) (y : BitVec n) :
    (x ++ y).toNat = 2 ^ n * x.toNat + y.toNat := by
  rw [BitVec.toNat_append, ← Nat.shiftLeft_add_eq_or_of_lt y.isLt, Nat.shiftLeft_eq, Nat.mul_comm]

/-- A field alone in its word. -/
theorem toNat_zeroExtend_word {n : Nat} (x : BitVec n) (h : n ≤ 32) :
    (x.zeroExtend 32).toNat = x.toNat :=
  BitVec.toNat_setWidth_of_le h

/-! ### The configuration registers -/

theorem toNat_readCtrl (s : State) :
    (readCtrl s).toNat =
      s.regs.ctrl.family.toNat + 4 * s.regs.ctrl.strictA.toNat + 8 * s.regs.ctrl.baudOvrEn.toNat +
        16 * s.regs.ctrl.initWaitResp.toNat := by
  simp only [readCtrl, toNat_append_eq_add, BitVec.toNat_ofBool, BitVec.toNat_ofNat]
  omega

theorem toNat_causeCode (c : Cause) :
    c.code.toNat =
      match c with
      | .none => 0
      | .channelBusy => 1
      | .deviceNotFound => 2
      | .permissionDenied => 3
      | .stepTimeout => 4
      | .emptyList => 5 := by
  cases c <;> rfl

theorem toNat_readLastErr (s : State) :
    (readLastErr s).toNat =
      (match s.sess.lastErr.cause with
        | .none => 0
        | .channelBusy => 1
        | .deviceNotFound => 2
        | .permissionDenied => 3
        | .stepTimeout => 4
        | .emptyList => 5) +
        16 * s.sess.lastErr.candIdx.toNat + 256 * s.sess.lastErr.stepIdx.toNat := by
  simp only [readLastErr, toNat_append_eq_add, BitVec.toNat_ofNat, toNat_causeCode]
  omega

theorem toNat_readACmdSel (s : State) :
    (readACmdSel s).toNat = s.regs.aInv.toNat + 256 * s.regs.aBuf.toNat := by
  simp only [readACmdSel, toNat_append_eq_add, BitVec.toNat_ofNat]
  omega

theorem toNat_word_spec (e : ScriptEntry) :
    (e.word 0#3).toNat = e.nbytes.toNat + 256 * e.expAddr.toNat + 65536 * e.expCmd.toNat := by
  simp only [ScriptEntry.word, if_true, toNat_append_eq_add, BitVec.toNat_ofNat]
  omega

theorem toNat_word_delay (e : ScriptEntry) : (e.word 1#3).toNat = e.delay.toNat := by
  have hword : e.word 1#3 = 0#16 ++ e.delay := by simp [ScriptEntry.word]
  rw [hword, toNat_append_eq_add]
  simp

theorem word_data (e : ScriptEntry) (j : Fin 6) : e.word (BitVec.ofNat 3 (j + 2)) = e.data[j] := by
  fin_cases j <;> rfl

/-- Settles O5, register by register. -/
theorem readsOfConfigurationRegisters : Obligations.ReadsOfConfigurationRegisters := by
  intro s
  refine ⟨⟨_, rfl, rfl⟩, ⟨_, rfl, toNat_readCtrl s⟩, ⟨_, rfl, toNat_zeroExtend_word _ (by omega)⟩,
    ⟨_, rfl, toNat_zeroExtend_word _ (by omega)⟩, ⟨_, rfl, toNat_zeroExtend_word _ (by omega)⟩,
    ⟨_, rfl, rfl⟩, ⟨_, rfl, rfl⟩, ⟨_, rfl, toNat_readLastErr s⟩,
    ⟨_, rfl, toNat_zeroExtend_word _ (by omega)⟩, ⟨_, rfl, toNat_readACmdSel s⟩,
    ⟨_, rfl, toNat_zeroExtend_word _ (by omega)⟩, fun n => ⟨_, rfl, rfl⟩, fun k => ?_⟩
  exact ⟨⟨_, rfl, toNat_word_spec _⟩, ⟨_, rfl, toNat_word_delay _⟩,
    fun j => ⟨_, rfl, congrArg BitVec.toNat (word_data _ j)⟩⟩

/-! ### The engines, the levels and the counters -/

/-- A level shows its length modulo the field's 16 bits. -/
theorem toNat_readLevel (n : Nat) : ((BitVec.ofNat 16 n).zeroExtend 32).toNat = n % 65536 := by
  rw [toNat_zeroExtend_word _ (by omega), BitVec.toNat_ofNat]

/-- Settles O6, register by register. -/
theorem readsOfEnginesLevelsAndCounters : Obligations.ReadsOfEnginesLevelsAndCounters := by
  intro s
  exact ⟨⟨_, rfl, toNat_zeroExtend_word _ (by omega)⟩, ⟨_, rfl, toNat_zeroExtend_word _ (by omega)⟩,
    ⟨_, rfl, toNat_readLevel _⟩, ⟨_, rfl, rfl⟩, ⟨_, rfl, rfl⟩, ⟨_, rfl, rfl⟩, ⟨_, rfl, rfl⟩,
    ⟨_, rfl, rfl⟩, ⟨_, rfl, rfl⟩, ⟨_, rfl, rfl⟩, ⟨_, rfl, toNat_zeroExtend_word _ (by omega)⟩,
    ⟨_, rfl, toNat_readLevel _⟩⟩

/-! ### The status registers -/

theorem toNat_familyCode (fam : Family) :
    (familyCode fam).toNat = match fam with | .a => 0 | .b => 1 | .pcsc => 2 := by
  cases fam <;> rfl

theorem toNat_seqCode (q : SeqState) :
    q.code.toNat =
      match q with
      | .idle => 0
      | .opening => 1
      | .initTx => 2
      | .initWait => 3
      | .initDelay => 4
      | .connected => 5
      | .failed => 6
      | .aborting => 7 := by
  cases q <;> rfl

theorem locked_iff_isLocked {s : State} : s.sess.seq.locked = true ↔ IsLocked s := by
  cases h : s.sess.seq <;> simp [SeqState.locked, IsLocked, h]

theorem live_iff_isLive {s : State} : s.sess.seq.live = true ↔ IsLive s := by
  cases h : s.sess.seq <;> simp [SeqState.live, IsLive, h]

theorem pendLevel_eq (s : State) :
    pendLevel s = if s.sess.fam = .pcsc then s.rx.pcBuf.length else s.rx.pend.length := by
  cases h : s.sess.fam <;> simp [pendLevel, h]

theorem toNat_statusReg (s : State) :
    (statusReg s).toNat =
      (match s.sess.seq with
        | .idle => 0
        | .opening => 1
        | .initTx => 2
        | .initWait => 3
        | .initDelay => 4
        | .connected => 5
        | .failed => 6
        | .aborting => 7) +
        8 * (if s.sess.seq = .connected then 1 else 0) +
        16 * (match s.sess.fam with | .a => 0 | .b => 1 | .pcsc => 2) +
        64 * s.sess.ci.toNat + 1024 * s.sess.k.toNat +
        16384 * s.rx.pcBusy.toNat + 32768 * (if IsLocked s then 1 else 0) +
        65536 * ((if s.sess.fam = .pcsc then s.rx.pcBuf.length else s.rx.pend.length) % 512) := by
  have hconn : (s.sess.seq == .connected).toNat = if s.sess.seq = .connected then 1 else 0 := by
    simp [Bool.toNat]
  have hlocked : s.sess.seq.locked.toNat = if IsLocked s then 1 else 0 := by
    simp only [← locked_iff_isLocked]
    cases s.sess.seq.locked <;> rfl
  simp only [statusReg, toNat_append_eq_add, BitVec.toNat_ofBool, BitVec.toNat_ofNat,
    toNat_familyCode, toNat_seqCode, hconn, hlocked, pendLevel_eq]
  omega

theorem toNat_readIrqStatus (s : State) :
    (readIrqStatus s).toNat = 2 * s.log.irq.toNat + if s.evt = [] then 0 else 1 := by
  rw [readIrqStatus, toNat_zeroExtend_word _ (by omega), irqStatus, toNat_append_eq_add]
  cases s.evt <;> simp

/-- Settles O7. -/
theorem readsOfTheStatusRegisters : Obligations.ReadsOfTheStatusRegisters :=
  ⟨⟨rfl, rfl, rfl⟩, fun s => ⟨⟨_, rfl, toNat_statusReg s⟩, ⟨_, rfl, toNat_readIrqStatus s⟩⟩⟩

/-! ### The head record -/

theorem toNat_kindCode (k : RecordKind) :
    k.code.toNat = match k with | .tag => 1 | .noTags => 2 | .ack => 3 | .protoErr => 4 := by
  cases k <;> rfl

theorem toNat_headWord (r : Record) :
    r.headWord.toNat =
      (match r.kind with | .tag => 1 | .noTags => 2 | .ack => 3 | .protoErr => 4) +
        16 * (match r.fam with | .a => 0 | .b => 1 | .pcsc => 2) +
        64 * r.csumBad.toNat + 256 * r.cmd.toNat + 65536 * (r.id.length % 512) := by
  simp only [Record.headWord, toNat_append_eq_add, BitVec.toNat_ofBool, BitVec.toNat_ofNat,
    toNat_familyCode, toNat_kindCode]
  omega

theorem toNat_auxWord (r : Record) : r.auxWord.toNat = r.code.toNat + 65536 * r.addr.toNat := by
  simp only [Record.auxWord, toNat_append_eq_add, BitVec.toNat_ofNat]
  omega

theorem readEvtHead_cons {s : State} {r : Record} {rest : List Record} (h : s.evt = r :: rest) :
    readEvtHead s = r.headWord := by
  rw [readEvtHead, h]

theorem readEvtAux_cons {s : State} {r : Record} {rest : List Record} (h : s.evt = r :: rest) :
    readEvtAux s = r.auxWord := by
  rw [readEvtAux, h]

theorem readEvtData_cons {s : State} {r : Record} {rest : List Record} (w : BitVec 6)
    (h : s.evt = r :: rest) : readEvtData w s = packedWord r.id w.toNat := by
  rw [readEvtData, h]

/-- On an empty FIFO the three registers of the head read 0. -/
theorem readEvt_nil {s : State} (h : s.evt = []) :
    readEvtHead s = 0#32 ∧ readEvtAux s = 0#32 ∧ ∀ w, readEvtData w s = 0#32 := by
  simp [readEvtHead, readEvtAux, readEvtData, h]

/-- Settles O8, on an empty and on a non-empty FIFO. -/
theorem readsOfTheHeadRecord : Obligations.ReadsOfTheHeadRecord := by
  intro s
  constructor
  · intro h
    obtain ⟨hhead, haux, hdata⟩ := readEvt_nil h
    exact ⟨⟨_, rfl, by rw [hhead]; rfl⟩, ⟨_, rfl, by rw [haux]; rfl⟩,
      fun w => ⟨_, rfl, by rw [hdata]; rfl⟩⟩
  · intro r rest h
    refine ⟨⟨_, rfl, ?_⟩, ⟨_, rfl, ?_⟩, fun w => ⟨_, rfl, ?_⟩⟩
    · exact (congrArg BitVec.toNat (readEvtHead_cons h)).trans (toNat_headWord r)
    · rw [readEvtAux_cons h, toNat_auxWord]
    · rw [readEvtData_cons w h, packedWord, toNat_packWord]
      rfl

/-- Settles O9. -/
theorem accessesAgainstTheAccessCode : Obligations.AccessesAgainstTheAccessCode :=
  fun s => ⟨fun r => readsAs_rdWoRegister r s, fun _ _ => rfl⟩

/-! ### The interrupt -/

theorem regRead_irqEn (s : State) : regRead 0x014#12 s = readIrqEn s := rfl

theorem ne_zero_iff_exists_getLsbD {n : Nat} {x : BitVec n} :
    x ≠ 0#n ↔ ∃ j, j < n ∧ x.getLsbD j = true := by
  constructor
  · intro h
    by_contra hnone
    exact h (BitVec.eq_of_getLsbD_eq fun j hj => by
      simpa using fun hbit => hnone ⟨j, hj, hbit⟩)
  · rintro ⟨j, -, hbit⟩ rfl
    simp at hbit

/-- Settles O54: the two fields' conjunction is not 0 exactly when some bit of it is set, and the
registers show the fields' bits. -/
theorem interruptIsAnEnabledPendingBit : Obligations.InterruptIsAnEnabledPendingBit := by
  intro s
  have hline : irqLine s = true ↔ irqStatus s &&& s.regs.irqEn ≠ 0#11 := bne_iff_ne
  have hbit : ∀ (x : BitVec 11) (j : Nat), j ≤ 10 → (x.zeroExtend 32).getLsbD j = x.getLsbD j :=
    fun x j hj => by simp [show j < 32 by omega]
  rw [hline, ne_zero_iff_exists_getLsbD, regRead_irqStatus, regRead_irqEn, readIrqStatus, readIrqEn]
  refine exists_congr fun j => ?_
  rw [Nat.lt_succ_iff, BitVec.getLsbD_and, Bool.and_eq_true]
  exact and_congr_right fun hj => by rw [hbit _ j hj, hbit _ j hj]

end Sys2Proof.Machine

/-!
Proofs for 44_host_ops.md R266 and R267, 10_state.md R31, R37, R49 and R64, and 41_checksum_crc.md
R163, R170, R172 and R177: what a write of a register does. That no other register changes rests on
one fact: a word offset is the offset of the row it decodes to.
-/
namespace Sys2Proof.Machine

/-! ### One row, one offset -/

theorem readInput_injective : Function.Injective readInput := by
  intro o o' h
  simp only [readInput, Input.mk.injEq, true_and, busItem, List.cons_append, List.cons.injEq] at h
  obtain ⟨hlow, hhigh, -⟩ := h
  have ho := accessWord_addr (0#3 ++ BitVec.ofBool false ++ o)
  rwa [hlow, hhigh, accessWord_addr, BitVec.extractLsb'_append_eq_right,
    BitVec.extractLsb'_append_eq_right, eq_comm] at ho

theorem toNat_baudCandOffset (n : BitVec 3) : (baudCandOffset n).toNat = 0x080 + 4 * n.toNat := by
  simp only [baudCandOffset, toNat_append_eq_add, BitVec.toNat_ofNat]
  omega

theorem toNat_initScriptOffset (k w : BitVec 3) :
    (initScriptOffset k w).toNat = 0x100 + 0x20 * k.toNat + 4 * w.toNat := by
  simp only [initScriptOffset, toNat_append_eq_add, BitVec.toNat_ofNat]
  omega

theorem toNat_evtDataOffset (w : BitVec 6) : (evtDataOffset w).toNat = 0x400 + 4 * w.toNat := by
  simp only [evtDataOffset, toNat_append_eq_add, BitVec.toNat_ofNat]
  omega

theorem baudCandOffset_eq_ofNat (n : BitVec 3) :
    BitVec.ofNat 12 (0x080 + 4 * n.toNat) = baudCandOffset n := by
  rw [← toNat_baudCandOffset, BitVec.ofNat_toNat, BitVec.setWidth_eq]

theorem initScriptOffset_eq_ofNat (k w : BitVec 3) :
    BitVec.ofNat 12 (0x100 + 0x20 * k.toNat + 4 * w.toNat) = initScriptOffset k w := by
  rw [← toNat_initScriptOffset, BitVec.ofNat_toNat, BitVec.setWidth_eq]

/-- A word offset is the offset of the row it decodes to (10_state.md R23, 20_memory.md R74). -/
theorem encode_decodeRead {o : Offset} (h : o.toNat % 4 = 0) :
    encode (decodeRead o 0#32) = readInput o := by
  unfold decodeRead
  split
  case h_32 =>
    split
    case isTrue hrange =>
      refine congrArg readInput (BitVec.eq_of_toNat_eq ?_)
      rw [toNat_baudCandOffset, candIndex, BitVec.extractLsb'_toNat, Nat.shiftRight_eq_div_pow]
      omega
    case isFalse =>
      split
      case isTrue hrange =>
        refine congrArg readInput (BitVec.eq_of_toNat_eq ?_)
        rw [toNat_initScriptOffset, scriptIndex, scriptWord, BitVec.extractLsb'_toNat,
          BitVec.extractLsb'_toNat, Nat.shiftRight_eq_div_pow, Nat.shiftRight_eq_div_pow]
        omega
      case isFalse =>
        split
        case isTrue hrange =>
          refine congrArg readInput (BitVec.eq_of_toNat_eq ?_)
          rw [toNat_evtDataOffset, evtDataIndex, BitVec.extractLsb'_toNat,
            Nat.shiftRight_eq_div_pow]
          omega
        case isFalse => rfl
  all_goals exact congrArg readInput (BitVec.eq_of_toNat_eq (Eq.symm ‹_›))

/-- An offset other than a row's own does not decode to that row. -/
theorem decodeRead_ne_of_offset_ne {o off : Offset} {i : Instr} (halign : o.toNat % 4 = 0)
    (hne : o ≠ off) (hi : encode i = readInput off) : decodeRead o 0#32 ≠ i := by
  rintro rfl
  exact hne (readInput_injective ((encode_decodeRead halign).symm.trans hi))

/-- The row shows a field of the host's registers or engines that differs between the two states. -/
def RowDiffers (s t : State) (row : Instr) : Prop :=
  (row = .rdCtrl ∧ t.regs.ctrl ≠ s.regs.ctrl) ∨ (row = .rdIrqEn ∧ t.regs.irqEn ≠ s.regs.irqEn) ∨
    (row = .rdChannel ∧ t.regs.channel ≠ s.regs.channel) ∨
    (row = .rdBaudCount ∧ t.regs.baudCount ≠ s.regs.baudCount) ∨
    (row = .rdBaudOverride ∧ t.regs.baudOverride ≠ s.regs.baudOverride) ∨
    (row = .rdSeqTimeout ∧ t.regs.seqTimeout ≠ s.regs.seqTimeout) ∨
    (row = .rdACmdSel ∧ (t.regs.aInv ≠ s.regs.aInv ∨ t.regs.aBuf ≠ s.regs.aBuf)) ∨
    (row = .rdInitCount ∧ t.regs.initCount ≠ s.regs.initCount) ∨
    (row = .rdCrcValue ∧ t.eng.crc ≠ s.eng.crc) ∨ (row = .rdXorValue ∧ t.eng.xacc ≠ s.eng.xacc) ∨
    (∃ n, row = .rdBaudCand n ∧ readBaudCand n t ≠ readBaudCand n s) ∨
    ∃ k w, row = .rdInitScript k w ∧ readInitScript k w t ≠ readInitScript k w s

/-- Between states that differ in the host's registers and engines alone, a register that reads
otherwise shows a field that differs. -/
theorem rowDiffers_of_regRead_ne {s t : State} {o : Offset}
    (hframe : { t with regs := s.regs, eng := s.eng } = s) (h : regRead o t ≠ regRead o s) :
    RowDiffers s t (decodeRead o 0#32) := by
  obtain ⟨r, e, rfl⟩ : ∃ r e, t = { s with regs := r, eng := e } := ⟨t.regs, t.eng, by rw [← hframe]⟩
  unfold regRead at h
  by_contra hsame
  apply h
  cases hi : decodeRead o 0#32 with
  | rdCtrl | rdIrqEn | rdChannel | rdBaudCount | rdBaudOverride | rdSeqTimeout | rdACmdSel
  | rdInitCount | rdCrcValue | rdXorValue =>
    simp only [hi, RowDiffers, reduceCtorEq, false_and, exists_const, true_and, or_false, false_or,
      not_or, not_not] at hsame
    simp only [readCtrl, readIrqEn, readChannel, readBaudCount, readBaudOverride, readSeqTimeout,
      readACmdSel, readInitCount, readCrcValue, readXorValue, hsame]
  | rdBaudCand n => simpa [hi, RowDiffers] using hsame
  | rdInitScript k w => simpa [hi, RowDiffers] using hsame
  | _ => rfl

/-- A write that changes one row's field, and nothing else but the host's registers and engines, is a
write of R267. -/
theorem writesAs_of_rowDiffers {i row : Instr} {off : Offset} {n : Nat} {s t : State}
    (hexec : exec i s = .next t) (hrow : encode row = readInput off)
    (hval : (regRead off t).toNat = n) (hdiff : ∀ r, RowDiffers s t r → r = row)
    (hframe : { t with regs := s.regs, eng := s.eng } = s) : WritesAs i off n s := by
  refine ⟨t, hexec, hval, fun o halign hne => ?_, hframe⟩
  by_contra h
  exact decodeRead_ne_of_offset_ne halign hne hrow (hdiff _ (rowDiffers_of_regRead_ne hframe h))

/-! ### The values stored -/

theorem toNat_lowField (v : Word) {n : Nat} (h : n ≤ 32) :
    ((v.extractLsb' 0 n).zeroExtend 32).toNat = v.toNat % 2 ^ n := by
  rw [toNat_zeroExtend_word _ h, BitVec.extractLsb'_toNat, Nat.shiftRight_zero]

theorem toNat_getLsbD (v : Word) (i : Nat) : (v.getLsbD i).toNat = v.toNat / 2 ^ i % 2 :=
  Nat.toNat_testBit v.toNat i

theorem toNat_readCtrl_ctrlOf (v : Word) (s : State) :
    (readCtrl { s with regs := { s.regs with ctrl := ctrlOf v } }).toNat = v.toNat % 32 := by
  rw [toNat_readCtrl]
  simp only [ctrlOf, toNat_getLsbD, BitVec.extractLsb'_toNat, Nat.shiftRight_zero]
  omega

theorem toNat_readACmdSel_fields (v : Word) (s : State) :
    (readACmdSel { s with regs := { s.regs with
      aInv := v.extractLsb' 0 8, aBuf := v.extractLsb' 8 8 } }).toNat = v.toNat % 65536 := by
  rw [toNat_readACmdSel]
  simp only [BitVec.extractLsb'_toNat, Nat.shiftRight_eq_div_pow]
  omega

/-- The array rows are read at their own offsets. -/
theorem regRead_baudCandOffset (n : BitVec 3) (s : State) :
    regRead (baudCandOffset n) s = readBaudCand n s := by
  obtain ⟨hge, hlt, -, hn⟩ := baudCandOffset_spec n
  rw [regRead_of_baudCand s ⟨hge, hlt⟩, hn]

theorem regRead_initScriptOffset (k w : BitVec 3) (s : State) :
    regRead (initScriptOffset k w) s = readInitScript k w s := by
  obtain ⟨hge, hlt, -, hk, hw⟩ := initScriptOffset_spec k w
  rw [regRead_of_initScript s ⟨hge, hlt⟩, hk, hw]

/-! ### The plain registers -/

section
variable (v : Word) (s : State)

theorem writesAs_wrCtrl : WritesAs (.wrCtrl v) 0x004#12 (v.toNat % 32) s :=
  writesAs_of_rowDiffers (row := .rdCtrl) rfl rfl (toNat_readCtrl_ctrlOf v s)
    (by simp +contextual [RowDiffers, readBaudCand, readInitScript]) rfl

theorem writesAs_wrIrqEn : WritesAs (.wrIrqEn v) 0x014#12 (v.toNat % 2048) s :=
  writesAs_of_rowDiffers (row := .rdIrqEn) rfl rfl (toNat_lowField v (n := 11) (by omega))
    (by simp +contextual [RowDiffers, readBaudCand, readInitScript]) rfl

theorem writesAs_wrChannel : WritesAs (.wrChannel v) 0x018#12 (v.toNat % 256) s :=
  writesAs_of_rowDiffers (row := .rdChannel) rfl rfl (toNat_lowField v (n := 8) (by omega))
    (by simp +contextual [RowDiffers, readBaudCand, readInitScript]) rfl

theorem writesAs_wrBaudOverride : WritesAs (.wrBaudOverride v) 0x020#12 v.toNat s :=
  writesAs_of_rowDiffers (row := .rdBaudOverride) rfl rfl rfl
    (by simp +contextual [RowDiffers, readBaudCand, readInitScript]) rfl

theorem writesAs_wrSeqTimeout : WritesAs (.wrSeqTimeout v) 0x02C#12 (v.toNat % 65536) s :=
  writesAs_of_rowDiffers (row := .rdSeqTimeout) rfl rfl (toNat_lowField v (n := 16) (by omega))
    (by simp +contextual [RowDiffers, readBaudCand, readInitScript]) rfl

theorem writesAs_wrACmdSel : WritesAs (.wrACmdSel v) 0x030#12 (v.toNat % 65536) s :=
  writesAs_of_rowDiffers (row := .rdACmdSel) rfl rfl (toNat_readACmdSel_fields v s)
    (by simp +contextual [RowDiffers, readBaudCand, readInitScript]) rfl

theorem writesAs_wrCrcValue : WritesAs (.wrCrcValue v) 0x038#12 (v.toNat % 65536) s :=
  writesAs_of_rowDiffers (row := .rdCrcValue) rfl rfl (toNat_lowField v (n := 16) (by omega))
    (by simp +contextual [RowDiffers, readBaudCand, readInitScript]) rfl

theorem writesAs_wrXorValue : WritesAs (.wrXorValue v) 0x040#12 (v.toNat % 256) s :=
  writesAs_of_rowDiffers (row := .rdXorValue) rfl rfl (toNat_lowField v (n := 8) (by omega))
    (by simp +contextual [RowDiffers, readBaudCand, readInitScript]) rfl

theorem readBaudCand_set (n m : BitVec 3) :
    readBaudCand m { s with regs := { s.regs with
      baudCand := s.regs.baudCand.set n.toNat v n.isLt } } =
      if n = m then v else readBaudCand m s := by
  simp only [readBaudCand, Vector.getElem_set, BitVec.toNat_inj]

theorem writesAs_wrBaudCand (n : BitVec 3) :
    WritesAs (.wrBaudCand n v) (baudCandOffset n) v.toNat s := by
  refine writesAs_of_rowDiffers (row := .rdBaudCand n) rfl rfl ?_ ?_ rfl
  · rw [regRead_baudCandOffset, readBaudCand_set, if_pos rfl]
  · rintro r h
    simp only [RowDiffers, readBaudCand_set, readInitScript, ne_eq, not_true, and_false, or_false,
      false_or, exists_false] at h
    obtain ⟨m, rfl, hm⟩ := h
    by_cases hnm : n = m
    · rw [hnm]
    · exact absurd (if_neg hnm) hm

/-- Settles O12, register by register. -/
theorem writesOfReadWriteRegisters : Obligations.WritesOfReadWriteRegisters :=
  fun s v => ⟨writesAs_wrCtrl v s, writesAs_wrIrqEn v s, writesAs_wrChannel v s,
    writesAs_wrBaudOverride v s, writesAs_wrSeqTimeout v s, writesAs_wrACmdSel v s,
    writesAs_wrCrcValue v s, writesAs_wrXorValue v s,
    fun n => by rw [baudCandOffset_eq_ofNat]; exact writesAs_wrBaudCand v s n⟩

/-! ### Legal values and the LOCK registers -/

theorem toNat_ite_le {n : Nat} (x m : BitVec n) :
    (if x ≤ m then x else m).toNat = min x.toNat m.toNat := by
  split
  case isTrue h => rw [Nat.min_eq_left (BitVec.le_def.1 h)]
  case isFalse h => rw [Nat.min_eq_right (Nat.le_of_not_le (mt BitVec.le_def.2 h))]

theorem toNat_legalBaudCount : (legalBaudCount v).toNat = min (v.toNat % 16) 8 := by
  rw [legalBaudCount, toNat_ite_le, BitVec.extractLsb'_toNat]
  rfl

theorem toNat_legalInitCount : (legalInitCount v).toNat = min (v.toNat % 16) 8 := by
  rw [legalInitCount, toNat_ite_le, BitVec.extractLsb'_toNat]
  rfl

theorem toNat_legalNbytes : (legalNbytes v).toNat = min (v.toNat % 32) 24 := by
  rw [legalNbytes, toNat_ite_le, BitVec.extractLsb'_toNat]
  rfl

theorem writesAs_wrBaudCount : WritesAs (.wrBaudCount v) 0x01C#12 (min (v.toNat % 16) 8) s :=
  writesAs_of_rowDiffers (row := .rdBaudCount) rfl rfl
    ((toNat_zeroExtend_word _ (by omega)).trans (toNat_legalBaudCount v))
    (by simp +contextual [RowDiffers, readBaudCand, readInitScript]) rfl

variable {s}

theorem unlessLocked_of_locked (f : State → State) (h : IsLocked s) : unlessLocked f s = s :=
  if_pos (locked_iff_isLocked.2 h)

theorem unlessLocked_of_not_locked (f : State → State) (h : ¬ IsLocked s) :
    unlessLocked f s = f s :=
  if_neg fun hl => h (locked_iff_isLocked.1 hl)

variable (s)

theorem exec_wrInitCount :
    exec (.wrInitCount v) s = .next
      (unlessLocked (fun s => { s with regs := { s.regs with initCount := legalInitCount v } }) s) :=
  rfl

theorem exec_wrInitScript (k w : BitVec 3) :
    exec (.wrInitScript k w v) s = .next (unlessLocked (fun s => { s with regs := { s.regs with
      script := s.regs.script.set k.toNat ((s.regs.script[k.toNat]'k.isLt).setWord w v) k.isLt } })
      s) :=
  rfl

theorem writesAs_wrInitCount (h : ¬ IsLocked s) :
    WritesAs (.wrInitCount v) 0x034#12 (min (v.toNat % 16) 8) s :=
  writesAs_of_rowDiffers (row := .rdInitCount)
    ((exec_wrInitCount v s).trans (congrArg _ (unlessLocked_of_not_locked _ h))) rfl
    ((toNat_zeroExtend_word _ (by omega)).trans (toNat_legalInitCount v))
    (by simp +contextual [RowDiffers, readBaudCand, readInitScript]) rfl

/-- A word of a script entry reads what was written to it, made legal (10_state.md R49). -/
theorem toNat_word_setWord (e : ScriptEntry) (w : BitVec 3) :
    ((e.setWord w v).word w).toNat =
      if w = 0#3 then min (v.toNat % 32) 24 + 256 * (v.toNat / 256 % 65536)
      else if w = 1#3 then v.toNat % 65536
      else v.toNat := by
  by_cases h0 : w = 0#3
  · subst h0
    rw [toNat_word_spec]
    simp only [ScriptEntry.setWord, if_true, toNat_legalNbytes, BitVec.extractLsb'_toNat,
      Nat.shiftRight_eq_div_pow]
    omega
  · by_cases h1 : w = 1#3
    · subst h1
      rw [toNat_word_delay]
      simp [ScriptEntry.setWord]
    · have hw : w.toNat - 2 < 6 := by bv_omega
      simp [ScriptEntry.word, ScriptEntry.setWord, h0, h1, hw]

/-- The other words of the entry read as before. -/
theorem word_setWord_of_ne (e : ScriptEntry) {w w' : BitVec 3} (h : w ≠ w') :
    (e.setWord w v).word w' = e.word w' := by
  simp only [ScriptEntry.setWord]
  split_ifs with h0 h1
  · have h0' : w' ≠ 0#3 := fun h' => h (h0.trans h'.symm)
    simp [ScriptEntry.word, h0']
  · have h1' : w' ≠ 1#3 := fun h' => h (h1.trans h'.symm)
    simp [ScriptEntry.word, h1']
  · by_cases h0' : w' = 0#3
    · simp [ScriptEntry.word, h0']
    · by_cases h1' : w' = 1#3
      · simp [ScriptEntry.word, h1']
      · have hne : w.toNat - 2 ≠ w'.toNat - 2 := by bv_omega
        simp [ScriptEntry.word, h0', h1', hne]

theorem writesAs_wrInitScript (h : ¬ IsLocked s) (k w : BitVec 3) :
    WritesAs (.wrInitScript k w v) (initScriptOffset k w)
      (if w = 0#3 then min (v.toNat % 32) 24 + 256 * (v.toNat / 256 % 65536)
        else if w = 1#3 then v.toNat % 65536
        else v.toNat) s := by
  refine writesAs_of_rowDiffers (row := .rdInitScript k w)
    ((exec_wrInitScript v s k w).trans (congrArg _ (unlessLocked_of_not_locked _ h))) rfl ?_ ?_ rfl
  · rw [regRead_initScriptOffset, readInitScript]
    simp only [Vector.getElem_set_self]
    exact toNat_word_setWord v _ w
  · rintro r hr
    simp only [RowDiffers, readBaudCand, readInitScript, ne_eq, not_true, and_false, or_false,
      false_or, exists_false] at hr
    obtain ⟨k', w', rfl, hdiff⟩ := hr
    rw [Vector.getElem_set] at hdiff
    split at hdiff
    · rename_i hk
      obtain rfl := BitVec.eq_of_toNat_eq hk
      by_cases hw : w = w'
      · rw [hw]
      · exact absurd (word_setWord_of_ne v _ hw) hdiff
    · exact absurd rfl hdiff

end

/-- Settles O13. -/
theorem writesOfLegalisedAndLockedRegisters : Obligations.WritesOfLegalisedAndLockedRegisters := by
  intro s v
  refine ⟨writesAs_wrBaudCount v s, fun hlocked => ⟨?_, fun k w => ?_⟩, fun hfree => ⟨?_, fun k w => ?_⟩⟩
  · rw [exec_wrInitCount, unlessLocked_of_locked _ hlocked]
  · rw [exec_wrInitScript, unlessLocked_of_locked _ hlocked]
  · exact writesAs_wrInitCount v s hfree
  · rw [initScriptOffset_eq_ofNat]
    exact writesAs_wrInitScript v s hfree k w

/-! ### The engines (41_checksum_crc.md) -/

theorem exec_wrCrcData (v : Word) (s : State) :
    exec (.wrCrcData v) s =
      .next { s with eng := { s.eng with crc := crcStep s.eng.crc (v.setWidth 8) } } := by
  rw [BitVec.setWidth_eq_extractLsb' (by omega)]
  rfl

theorem exec_wrXorData (v : Word) (s : State) :
    exec (.wrXorData v) s =
      .next { s with eng := { s.eng with xacc := s.eng.xacc ^^^ v.setWidth 8 } } := by
  rw [BitVec.setWidth_eq_extractLsb' (by omega)]
  rfl

theorem execAll_wrCrcData (ws : List Word) (s : State) :
    execAll (ws.map .wrCrcData) s =
      .next { s with eng := { s.eng with
        crc := (ws.map fun v => v.setWidth 8).foldl crcStep s.eng.crc } } := by
  induction ws generalizing s with
  | nil => rfl
  | cons w ws ih =>
    simp only [List.map_cons, execAll, exec_wrCrcData, List.foldl_cons]
    exact ih _

theorem execAll_wrXorData (ws : List Word) (s : State) :
    execAll (ws.map .wrXorData) s =
      .next { s with eng := { s.eng with
        xacc := (ws.map fun v => v.setWidth 8).foldl (· ^^^ ·) s.eng.xacc } } := by
  induction ws generalizing s with
  | nil => rfl
  | cons w ws ih =>
    simp only [List.map_cons, execAll, exec_wrXorData, List.foldl_cons]
    exact ih _

/-- Settles O15: a run of writes is a fold over their bytes (`execAll_wrCrcData`), and so is
`crc16`. -/
theorem crcDataWritesRunTheEngine : Obligations.CrcDataWritesRunTheEngine := by
  refine ⟨fun c b => rfl, fun bs => rfl, fun s v => exec_wrCrcData v s, fun s seen ws h => ?_⟩
  rw [execAll_wrCrcData, h, crc16, crc16, List.foldl_append]

/-- Settles O16: a run of writes is a fold over their bytes (`execAll_wrXorData`), and so is
`xor8`. -/
theorem xorDataWritesFoldBytesIn : Obligations.XorDataWritesFoldBytesIn := by
  refine ⟨fun bs => rfl, fun s v => exec_wrXorData v s, fun s v => ?_, fun s seen ws h => ?_⟩
  · have htwice := execAll_wrXorData [v, v] s
    simpa [BitVec.xor_assoc] using htwice
  · rw [execAll_wrXorData, h, xor8, xor8, List.foldl_append]

/-- One bit of the engine is linear (R177). -/
theorem crcBit_xor (c d : BitVec 16) : crcBit (c ^^^ d) = crcBit c ^^^ crcBit d := by
  have hshift : (c ^^^ d) >>> 1 = c >>> 1 ^^^ d >>> 1 := BitVec.ushiftRight_xor_distrib c d 1
  simp only [crcBit, BitVec.getLsbD_xor, hshift]
  have hcancel (x y p : BitVec 16) : (x ^^^ p) ^^^ (y ^^^ p) = x ^^^ y := by
    rw [show (x ^^^ p) ^^^ (y ^^^ p) = x ^^^ y ^^^ (p ^^^ p) by ac_rfl, BitVec.xor_self,
      BitVec.xor_zero]
  have hright (x y p : BitVec 16) : (x ^^^ y) ^^^ p = (x ^^^ p) ^^^ y := by ac_rfl
  cases c.getLsbD 0 <;> cases d.getLsbD 0
  case false.false => rfl
  case false.true => exact BitVec.xor_assoc ..
  case true.false => exact hright ..
  case true.true => exact (hcancel ..).symm

theorem repeat_crcBit_xor (n : Nat) (c d : BitVec 16) :
    Nat.repeat crcBit n (c ^^^ d) = Nat.repeat crcBit n c ^^^ Nat.repeat crcBit n d := by
  induction n with
  | zero => rfl
  | succ n ih => rw [Nat.repeat, ih, crcBit_xor]; rfl

/-- Settles O53: the byte is folded in by an exclusive OR, and each bit's step is linear. -/
theorem crcStepIsLinearOverGF2 : Obligations.CrcStepIsLinearOverGF2 := by
  intro c d a b
  have hfold : c ^^^ d ^^^ (a ^^^ b).setWidth 16 =
      (c ^^^ a.setWidth 16) ^^^ (d ^^^ b.setWidth 16) := by
    rw [BitVec.setWidth_xor]
    ac_rfl
  rw [crcStep, hfold, repeat_crcBit_xor]
  rfl

/-! ### TX_DATA (R266) -/

theorem inSession_iff {s : State} :
    s.sess.seq.inSession = true ↔ s.sess.seq = .opening ∨ IsLive s := by
  cases h : s.sess.seq <;> simp [SeqState.inSession, IsLive, h]

/-- Settles O17: the two refusals of R266 have one effect. -/
theorem txDataWriteQueuesOrOverflows : Obligations.TxDataWriteQueuesOrOverflows := by
  intro s v
  show Host.Outcome.next (pushHostByte (v.extractLsb' 0 8) s) = _
  rw [BitVec.setWidth_eq_extractLsb' (by omega), pushHostByte]
  simp only [inSession_iff]
  split
  case isTrue h => rw [if_pos (.inl h)]; rfl
  case isFalse h =>
    split
    case isTrue hfull => rw [if_pos (.inr hfull)]; rfl
    case isFalse hroom => rw [if_neg (by rintro (h' | h'); exacts [h h', hroom h'])]

end Sys2Proof.Machine

/-!
Proofs for 44_host_ops.md R260 to R265 and 43_sequencer.md R226 to R231: the host commands.
-/
namespace Sys2Proof.Machine

/-- Settles O19, command by command. -/
theorem resultsOfThePlainCommands : Obligations.ResultsOfThePlainCommands := by
  intro s
  refine ⟨rfl, rfl, rfl, rfl, ?_, rfl, rfl⟩
  rw [List.drop_one]
  rfl

theorem exec_reserved (s : State) {i : Instr}
    (h : i ∈ [Instr.reserved9, .reservedA, .reservedB, .reservedC, .reservedD, .reservedE,
      .reservedF]) : exec i s = .next (setIrq .badCmd s) := by
  simp only [List.mem_cons, List.not_mem_nil, or_false] at h
  rcases h with rfl | rfl | rfl | rfl | rfl | rfl | rfl <;> rfl

/-- Settles O20: BAD_CMD is bit 7. -/
theorem reservedCommandsSetBadCmd : Obligations.ReservedCommandsSetBadCmd :=
  fun s _ h => exec_reserved s h

/-- R226: a family code that names no family, and an open in flight. -/
theorem cmdConnect_of_refused {s : State}
    (h : s.regs.ctrl.family = 3#2 ∨ s.sess.seq = .opening ∨ s.sess.seq = .aborting) :
    cmdConnect s = setIrq .badCmd s := by
  unfold cmdConnect
  split
  · rfl
  case h_2 fam hfam =>
    refine if_pos (h.resolve_left fun h3 => ?_)
    rw [h3] at hfam
    cases hfam

/-- Settles O21. -/
theorem refusedConnectSetsBadCmd : Obligations.RefusedConnectSetsBadCmd :=
  fun _ h => congrArg Host.Outcome.next (cmdConnect_of_refused h)

/-! ### CONNECT -/

/-- The list CONNECT latches (43_sequencer.md R227). -/
theorem candidates_fst (fam : Family) (r : HostRegs) :
    (candidates fam r).1 =
      if fam = .pcsc then [0#32]
      else if r.ctrl.baudOvrEn then [r.baudOverride] else r.baudCand.toList := by
  cases fam <;> cases h : r.ctrl.baudOvrEn <;> simp [candidates, h]

theorem candidates_snd (fam : Family) (r : HostRegs) :
    (candidates fam r).2 =
      if fam = .pcsc ∨ r.ctrl.baudOvrEn = true then 1#4 else r.baudCount := by
  cases fam <;> cases h : r.ctrl.baudOvrEn <;> simp [candidates, h]

/-- CONNECT's session, before it opens or fails: a live session's handle is closed, buffers and queues
are emptied, and the settings are latched (R227, R229, R230). -/
theorem latchSession_teardown (fam : Family) (s : State) :
    latchSession fam (if s.sess.seq.live then teardown s else s) =
      { s with
        rx := RxState.empty
        tx := TxState.empty
        sess := { s.sess with
          fam := fam
          chan := s.regs.channel
          waitResp := s.regs.ctrl.initWaitResp
          cand := (candidates fam s.regs).1
          ncand := (candidates fam s.regs).2
          ci := 0#4
          k := 0#4
          timer := 0#17
          handleOpen := s.sess.handleOpen && !(decide (IsLive s) && s.sess.handleOpen)
          chosenBaud := 0#32
          lastErr := LastErr.clear }
        ports := { s.ports with
          closeReq := s.ports.closeReq || (decide (IsLive s) && s.sess.handleOpen) } } := by
  have hlive : decide (IsLive s) = s.sess.seq.live := by
    rw [Bool.decide_congr live_iff_isLive.symm, Bool.decide_eq_true]
  rw [hlive]
  cases s.sess.seq.live with
  | true => simp [latchSession, teardown_eq]
  | false => simp [latchSession]

theorem getD_zero_eq_headD (l : List Word) : l.getD 0 0#32 = l.headD 0#32 := by
  cases l <;> rfl

/-- Settles O22: CONNECT latches, then opens candidate 0 or fails on an empty list. -/
theorem connectLatchesAndOpensTheFirstCandidate :
    Obligations.ConnectLatchesAndOpensTheFirstCandidate := by
  intro s fam hfam ho ha
  have hconnect : exec .connect s = .next (connect fam s) := by
    rw [exec_connect, cmdConnect_of_accepted hfam ho ha]
  simp only [hconnect, ← candidates_fst, ← candidates_snd, connect, latchSession_teardown]
  by_cases hn : (candidates fam s.regs).2 = 0#4
  · simp only [if_pos hn]
    rfl
  · simp only [if_neg hn, ← getD_zero_eq_headD]
    rfl

/-! ### DISCONNECT -/

/-- Settles O23, by the state. A running session is torn down (`teardown_eq`). -/
theorem disconnectEndsTheSession : Obligations.DisconnectEndsTheSession := by
  intro s
  rw [exec_disconnect, cmdDisconnect]
  simp only [teardown_eq]
  cases h : s.sess.seq with
  | idle | aborting | failed => simp
  | opening | initTx | initWait | initDelay | connected => simp [RxState.empty, TxState.empty]

end Sys2Proof.Machine

/-!
Proofs for 43_sequencer.md R222 to R238 and 10_state.md R49 and R58: the init script's mutual
recursion and the bytes a step queues, the transmitter, the open and the tick. The model ties the
recursion with a bound; it is enough because the step index has 4 bits (log 12).
-/
namespace Sys2Proof.Machine

/-! ### The bytes of a step (R223, R228; 20_memory.md R76) -/

theorem getElem?_flatMap_wordBytes (ws : List Word) (j : Nat) :
    (ws.flatMap wordBytes)[j]? = ws[j / 4]?.map fun w => lane w (j % 4) := by
  induction ws generalizing j with
  | nil => rfl
  | cons w ws ih =>
    have hlen : (wordBytes w).length = 4 := rfl
    rw [List.flatMap_cons]
    by_cases hj : j < 4
    · rw [List.getElem?_append_left (by omega)]
      interval_cases j <;> rfl
    · obtain ⟨i, rfl⟩ := Nat.exists_eq_add_of_le' (Nat.le_of_not_lt hj)
      rw [List.getElem?_append_right (by omega), hlen, Nat.add_sub_cancel, ih,
        Nat.add_div_right i (by omega), Nat.add_mod_right, List.getElem?_cons_succ]

theorem length_flatMap_wordBytes (ws : List Word) :
    (ws.flatMap wordBytes).length = 4 * ws.length := by
  induction ws with
  | nil => rfl
  | cons w ws ih =>
    rw [List.flatMap_cons, List.length_append, ih, List.length_cons]
    show 4 + _ = _
    omega

section
variable {e : ScriptEntry}

/-- An entry has the bytes its NBYTES counts. -/
theorem length_scriptBytes (h : e.nbytes ≤ 24#5) : e.bytes.length = e.nbytes.toNat := by
  have h24 : e.nbytes.toNat ≤ 24 := BitVec.le_def.1 h
  rw [ScriptEntry.bytes, List.length_take, length_flatMap_wordBytes, Vector.length_toList]
  omega

/-- Byte j of an entry is lane j % 4 of its DATA[j / 4] (R228). -/
theorem getElem?_scriptBytes {j : Fin 24} (hj : j.val < e.nbytes.toNat) :
    e.bytes[j.val]? = some ((e.data[j.val / 4]'(by omega)).extractLsb' (8 * (j.val % 4)) 8) := by
  have hword : j.val / 4 < 6 := by omega
  rw [ScriptEntry.bytes, List.getElem?_take_of_lt hj, getElem?_flatMap_wordBytes]
  simp [hword, lane]

end

/-- `last` goes with the final byte only (R223). -/
theorem getElem?_txPairs (bs : List Byte) (last : Bool) (j : Nat) :
    (txPairs bs last)[j]? = bs[j]?.map fun b => (b, last && decide (j + 1 = bs.length)) := by
  induction bs generalizing j with
  | nil => rfl
  | cons b bs ih =>
    cases bs with
    | nil => cases j <;> simp [txPairs]
    | cons b' bs =>
      cases j with
      | zero => simp [txPairs]
      | succ j =>
        rw [txPairs, List.getElem?_cons_succ, List.getElem?_cons_succ, ih]
        simp
        simp

/-! ### The rules' mutual recursion (R228, R232, R234, R237, R238) -/

/-- A timer set for a wait of n milliseconds counts one tick more (R232). -/
theorem waitTicks_eq (n : BitVec 16) : n.zeroExtend 17 + 1 = BitVec.ofNat 17 (n.toNat + 1) := by
  apply BitVec.eq_of_toNat_eq
  simp

theorem enterDelay_eq (s : State) :
    enterDelay s =
      if (scriptAt s s.sess.k).delay = 0#16 then advance s
      else { s with sess := { s.sess with
        seq := .initDelay, timer := BitVec.ofNat 17 ((scriptAt s s.sess.k).delay.toNat + 1) } } := by
  rw [← waitTicks_eq]
  rfl

theorem finishTx_eq (s : State) :
    finishTx s =
      if s.sess.waitResp then
        { s with sess := { s.sess with
          seq := .initWait, timer := BitVec.ofNat 17 (s.regs.seqTimeout.toNat + 1) } }
      else enterDelay s := by
  rw [← waitTicks_eq]
  rfl

/-- The state in which step k's bytes are queued (R228). -/
def queueStep (s : State) : State :=
  txqPush (scriptAt s s.sess.k).bytes true { s with sess := { s.sess with seq := .initTx } }

/-- The state in which the next step's turn comes (R238). -/
def toNextStep (s : State) : State :=
  { s with sess := { s.sess with timer := 0#17, k := s.sess.k + 1 } }

theorem startStepWith_eq (adv : State → State) (s : State) :
    startStepWith adv s =
      if (scriptAt s s.sess.k).nbytes = 0#5 then finishTxWith adv (queueStep s) else queueStep s :=
  rfl

theorem startStep_eq (s : State) :
    startStep s =
      if (scriptAt s s.sess.k).nbytes = 0#5 then finishTx (queueStep s) else queueStep s :=
  rfl

theorem advanceFuel_succ (n : Nat) (s : State) :
    advanceFuel (n + 1) s =
      if s.sess.k + 1 = s.regs.initCount then enterConnected (toNextStep s)
      else startStepWith (advanceFuel n) (toNextStep s) :=
  rfl

section
variable {adv adv' : State → State} {s : State}

theorem enterDelayWith_congr (h : adv s = adv' s) : enterDelayWith adv s = enterDelayWith adv' s := by
  simp only [enterDelayWith, h]

theorem finishTxWith_congr (h : adv s = adv' s) : finishTxWith adv s = finishTxWith adv' s := by
  simp only [finishTxWith, enterDelayWith_congr h]

/-- The start of a step runs its completion at most once, with the step's bytes queued. -/
theorem startStepWith_congr (h : adv (queueStep s) = adv' (queueStep s)) :
    startStepWith adv s = startStepWith adv' s := by
  simp only [startStepWith_eq, finishTxWith_congr h]

end

/-- The turns of `advance` until the step index meets INIT_COUNT.N, modulo 16. -/
def turnsLeft (s : State) : Nat := (s.regs.initCount - s.sess.k - 1).toNat + 1

theorem turnsLeft_le (s : State) : turnsLeft s ≤ 16 :=
  Nat.succ_le_of_lt (s.regs.initCount - s.sess.k - 1).isLt

/-- The next step has one turn less left, unless the index has met INIT_COUNT.N. -/
theorem turnsLeft_next {s : State} (hne : s.sess.k + 1 ≠ s.regs.initCount) :
    turnsLeft (queueStep (toNextStep s)) + 1 = turnsLeft s := by
  show (s.regs.initCount - (s.sess.k + 1) - 1).toNat + 1 + 1 = _
  rw [turnsLeft]
  bv_omega

/-- A bound of as many turns as are left cuts nothing off (log 12). -/
theorem advanceFuel_of_turnsLeft_le (n m : Nat) {s : State} (hn : turnsLeft s ≤ n)
    (hm : turnsLeft s ≤ m) : advanceFuel n s = advanceFuel m s := by
  induction n generalizing m s with
  | zero => exact absurd hn (Nat.not_succ_le_zero _)
  | succ n ih =>
    obtain ⟨m, rfl⟩ : ∃ m', m = m' + 1 :=
      Nat.exists_eq_add_one_of_ne_zero (Nat.ne_zero_of_lt (Nat.lt_of_succ_le hm))
    rw [advanceFuel_succ, advanceFuel_succ]
    split
    · rfl
    case isFalse hne =>
      have hnext := turnsLeft_next hne
      exact startStepWith_congr (ih m (by omega) (by omega))

theorem advance_eq (s : State) :
    advance s =
      if s.sess.k + 1 = s.regs.initCount then enterConnected (toNextStep s)
      else startStep (toNextStep s) := by
  rw [advance, advanceFuel_succ]
  split
  · rfl
  case isFalse hne =>
    have hnext := turnsLeft_next hne
    have hle := turnsLeft_le s
    exact startStepWith_congr (advanceFuel_of_turnsLeft_le _ _ (by omega) (by omega))

theorem enterConnected_eq (s : State) :
    enterConnected s =
      { s with
        sess := { s.sess with
          seq := .connected
          timer := 0#17
          chosenBaud :=
            if s.sess.fam = .pcsc then 0#32 else s.sess.cand.getD s.sess.ci.toNat 0#32 }
        log := { s.log with irq := s.log.irq ||| 0x001#10 } } := rfl

theorem scriptAt_of_lt (s : State) {k : BitVec 4} (h : k.toNat < 8) :
    scriptAt s k = s.regs.script[k.toNat]'h := by
  simp [scriptAt, h]

/-- On an empty queue a step with bytes queues them and awaits their transmission (R228). -/
theorem startStep_of_bytes {s : State} (htxq : s.tx.txq = [])
    (hne : (scriptAt s s.sess.k).nbytes ≠ 0#5) (hle : (scriptAt s s.sess.k).nbytes ≤ 24#5) :
    startStep s =
      { s with
        sess := { s.sess with seq := .initTx }
        tx := { s.tx with txq := txPairs (scriptAt s s.sess.k).bytes true } } := by
  have hfits : s.tx.txq.length + (scriptAt s s.sess.k).bytes.length ≤ 24 := by
    rw [htxq, length_scriptBytes hle]
    simpa using BitVec.le_def.1 hle
  have hpush := txqPush_of_fits (s := { s with sess := { s.sess with seq := .initTx } }) true hfits
  rw [startStep_eq, if_neg hne, queueStep, hpush]
  simp only [htxq, List.nil_append]

/-- The pairs a step with bytes queues, one by one (R223, R228; 20_memory.md R76). -/
theorem startStep_pairs {s : State} {e : ScriptEntry} (he : scriptAt s s.sess.k = e)
    (htxq : s.tx.txq = []) (hne : e.nbytes ≠ 0#5) (hle : e.nbytes ≤ 24#5) :
    { startStep s with tx := { (startStep s).tx with txq := [] } } =
        { s with sess := { s.sess with seq := .initTx } } ∧
      (startStep s).tx.txq.length = e.nbytes.toNat ∧
      ∀ j : Fin 24, j.val < e.nbytes.toNat →
        (startStep s).tx.txq[j.val]? =
          some ((e.data[j.val / 4]'(by omega)).extractLsb' (8 * (j.val % 4)) 8,
            decide (j.val + 1 = e.nbytes.toNat)) := by
  subst he
  rw [startStep_of_bytes htxq hne hle]
  refine ⟨?_, ?_, fun j hj => ?_⟩
  · rw [← htxq]
  · rw [txPairs_length, length_scriptBytes hle]
  · rw [getElem?_txPairs, getElem?_scriptBytes hj, length_scriptBytes hle]
    rfl

/-- Settles O36, rule by rule. -/
theorem stepCompletionFollowsTheRules : Obligations.StepCompletionFollowsTheRules := by
  intro s
  refine ⟨advance_eq s, startStep_eq s, fun bytes last h => txqPush_of_fits last h, finishTx_eq s,
    enterDelay_eq s, enterConnected_eq s, enterDelay_eq _, fun k h => scriptAt_of_lt s h,
    fun h => fun htxq hne hle => startStep_pairs (scriptAt_of_lt s h) htxq hne hle⟩

/-! ### The transmitter (R224) -/

/-- The pair e is taken, and the queue holds the rest. -/
def takeBeat (e : Byte × Bool) (rest : List (Byte × Bool)) (s : State) : State :=
  { s with tx := { s.tx with txq := rest }, ports := { s.ports with txBeat := some e } }

section
variable {s : State}

theorem onTxBeat_cons {e : Byte × Bool} {rest : List (Byte × Bool)} (h : s.tx.txq = e :: rest) :
    onTxBeat s =
      if rest = [] ∧ s.sess.seq = .initTx then finishTx (takeBeat e rest s)
      else takeBeat e rest s := by
  simp only [onTxBeat, h]
  rfl

theorem onTxBeat_host {b : Byte} {rest : List Byte} (hq : s.tx.txq = [])
    (hh : s.tx.htx = b :: rest) :
    onTxBeat s =
      if s.sess.seq = .connected then
        { s with
          tx := { s.tx with htx := rest }, ports := { s.ports with txBeat := some (b, false) } }
      else s := by
  simp only [onTxBeat, hq, hh]

theorem onTxBeat_nothing (hq : s.tx.txq = []) (hh : s.tx.htx = []) : onTxBeat s = s := by
  simp only [onTxBeat, hq, hh]

theorem txOffer_cons {e : Byte × Bool} {rest : List (Byte × Bool)} (h : s.tx.txq = e :: rest) :
    txOffer s = some e := by
  simp only [txOffer, h]

theorem txOffer_host {b : Byte} {rest : List Byte} (hq : s.tx.txq = []) (hh : s.tx.htx = b :: rest) :
    txOffer s = if s.sess.seq = .connected then some (b, false) else none := by
  simp only [txOffer, hq, hh]

theorem txOffer_nothing (hq : s.tx.txq = []) (hh : s.tx.htx = []) : txOffer s = none := by
  simp only [txOffer, hq, hh]

end

theorem exec_txBeat (s : State) : exec .txBeat s = .next (onTxBeat s) := rfl

/-- Settles O30: a pair of the internal queue, a byte of the host FIFO, nothing. -/
theorem txBeatTakesTheByteOffered : Obligations.TxBeatTakesTheByteOffered := by
  intro s
  refine ⟨fun e rest hq => ?_, fun b rest hq hh => ?_, fun hq hh => ?_⟩
  · refine ⟨txOffer_cons hq, by rw [txValid, txOffer_cons hq]; rfl, ?_⟩
    rw [exec_txBeat, onTxBeat_cons hq]
    by_cases hlast : rest = [] ∧ s.sess.seq = .initTx
    · rw [if_pos hlast, if_neg (c := rest ≠ [] ∨ s.sess.seq ≠ .initTx) (by tauto), finishTx_eq,
        enterDelay_eq]
      rfl
    · rw [if_neg hlast, if_pos (by tauto)]
      rfl
  · rw [exec_txBeat, onTxBeat_host hq hh, txValid, txOffer_host hq hh]
    by_cases hc : s.sess.seq = .connected <;> simp [hc]
  · rw [exec_txBeat, onTxBeat_nothing hq hh, txValid, txOffer_nothing hq hh]
    exact ⟨rfl, rfl, rfl⟩

/-! ### Answers to an open (R233, R235) -/

/-- What a failed candidate leaves, whole (R233). -/
theorem failCand_eq (cause : Cause) (step : BitVec 4) (s : State) :
    failCand cause step s =
      { s with
        rx := { s.rx with pend := [] }
        tx := { s.tx with txq := [] }
        sess := { s.sess with
          lastErr := ⟨cause, s.sess.ci, step⟩
          ci := s.sess.ci + 1
          k := 0#4
          timer := 0#17
          seq := if s.sess.ci + 1 = s.sess.ncand then .failed else .opening }
        log := if s.sess.ci + 1 = s.sess.ncand then { s.log with irq := s.log.irq ||| 0x002#10 }
          else s.log
        ports := { s.ports with
          openReq :=
            if s.sess.ci + 1 = s.sess.ncand then s.ports.openReq
            else some (s.sess.chan, s.sess.cand.getD (s.sess.ci + 1).toNat 0#32) } } := by
  by_cases h : s.sess.ci + 1 = s.sess.ncand
  · simp only [failCand, if_pos h]
    rfl
  · simp only [failCand, if_neg h]
    rfl

/-- The causes of R235: 0 is read as channel busy. -/
theorem openCause_eq (err : BitVec 2) :
    openCause err =
      match err.toNat with
      | 2 => .deviceNotFound
      | 3 => .permissionDenied
      | _ => .channelBusy := by
  revert err
  decide

/-- Settles O31: the answer fails its candidate. -/
theorem failedOpenTriesTheNextCandidate : Obligations.FailedOpenTriesTheNextCandidate := by
  intro s err hseq
  simp only [decide_eq_true_eq]
  rw [exec_openRsp, onOpenRsp_failed err hseq, failCand_eq, openCause_eq] <;> rfl

/-- R235: an open that succeeds holds a handle, and connects or starts the script. -/
theorem onOpenRsp_succeeded {s : State} (err : BitVec 2) (h : s.sess.seq = .opening) :
    onOpenRsp true err s =
      if s.sess.fam = .pcsc ∨ s.regs.initCount = 0#4 then
        enterConnected { s with sess := { s.sess with handleOpen := true } }
      else startStep { s with sess := { s.sess with handleOpen := true, k := 0#4 } } := by
  simp only [onOpenRsp, h, if_true]

/-- Settles O32. -/
theorem successfulOpenConnectsOrStartsTheScript :
    Obligations.SuccessfulOpenConnectsOrStartsTheScript := by
  intro s err hseq
  rw [exec_openRsp, onOpenRsp_succeeded err hseq]
  refine ⟨fun h => ?_, fun hfam hcount => ?_, fun hfam hcount htxq hle hne => ?_⟩
  · rw [if_pos h]
    rfl
  · rw [if_neg (by tauto)]
  · rw [if_neg (by tauto)]
    exact ⟨_, rfl, startStep_pairs
      (s := { s with sess := { s.sess with handleOpen := true, k := 0#4 } })
      (scriptAt_of_lt _ (k := 0#4) (by decide)) htxq hne hle⟩

/-- Settles O33. -/
theorem openAnswersOutsideOpening : Obligations.OpenAnswersOutsideOpening := by
  intro s ok err
  rw [exec_openRsp]
  refine ⟨fun h => ?_, fun ha ho => ?_⟩
  · cases ok <;> simp [onOpenRsp, h, emitClose]
  · cases h : s.sess.seq with
    | aborting => exact absurd h ha
    | opening => exact absurd h ho
    | idle | initTx | initWait | initDelay | connected | failed => simp only [onOpenRsp, h]

/-! ### The tick (R236) -/

/-- One tick of a wait is counted. -/
def countTick (s : State) : State :=
  { s with sess := { s.sess with timer := s.sess.timer - 1 } }

section
variable {s : State}

theorem onTick_of_no_wait (h : (s.sess.seq ≠ .initWait ∧ s.sess.seq ≠ .initDelay) ∨
    s.sess.timer = 0#17) : onTick s = s :=
  if_neg (by tauto)

/-- Inside a wait a tick counts; on the last count the wait is over. -/
theorem onTick_of_wait (hseq : s.sess.seq = .initWait ∨ s.sess.seq = .initDelay)
    (ht : s.sess.timer ≠ 0#17) :
    onTick s =
      if s.sess.timer = 1#17 then timerExpired (countTick s) else countTick s := by
  have hlast : s.sess.timer - 1 = 0#17 ↔ s.sess.timer = 1#17 := by bv_omega
  rw [onTick, if_pos ⟨hseq, ht⟩]
  simp only [hlast]
  rfl

theorem timerExpired_initDelay (h : s.sess.seq = .initDelay) : timerExpired s = advance s :=
  if_neg (by simp [h])

theorem timerExpired_initWait (h : s.sess.seq = .initWait) :
    timerExpired s = failCand .stepTimeout s.sess.k
      (emitClose { s with sess := { s.sess with handleOpen := false } }) :=
  if_pos h

end

theorem exec_tick (s : State) : exec .tick s = .next (onTick s) := rfl

/-- Settles O34. -/
theorem tickCountsTheWaitDown : Obligations.TickCountsTheWaitDown := by
  intro s
  simp only [decide_eq_true_eq]
  rw [exec_tick]
  by_cases hno : (s.sess.seq ≠ .initWait ∧ s.sess.seq ≠ .initDelay) ∨ s.sess.timer = 0#17
  · rw [if_pos hno, onTick_of_no_wait hno]
  · rw [if_neg hno]
    have hseq : s.sess.seq = .initWait ∨ s.sess.seq = .initDelay := by tauto
    rw [onTick_of_wait hseq (by tauto)]
    by_cases hlast : s.sess.timer = 1#17
    · rw [if_pos hlast, if_neg (not_not.2 hlast)]
      rcases hseq with h | h
      · rw [timerExpired_initWait (s := countTick s) h, failCand_eq,
          if_neg (c := s.sess.seq = .initDelay) (by simp [h])]
        rfl
      · rw [timerExpired_initDelay (s := countTick s) h, if_pos h]
        rfl
    · rw [if_neg hlast, if_pos hlast]
      rfl

/-- Settles O35, by induction on the ticks. -/
theorem waitsAreNeverShortened : Obligations.WaitsAreNeverShortened := by
  intro s n hseq hn
  induction n generalizing s with
  | zero => simp [execAll]
  | succ n ih =>
    have hne : s.sess.timer ≠ 0#17 := by bv_omega
    have hnot : s.sess.timer ≠ 1#17 := by bv_omega
    rw [List.replicate_succ, execAll, exec_tick, onTick_of_wait hseq hne, if_neg hnot]
    have hcount : s.sess.timer - 1 - BitVec.ofNat 17 n = s.sess.timer - BitVec.ofNat 17 (n + 1) := by
      bv_omega
    have hleft : n < (countTick s).sess.timer.toNat := by
      show n < (s.sess.timer - 1).toNat
      bv_omega
    rw [← hcount]
    exact ih (s := countTick s) hseq hleft

end Sys2Proof.Machine

/-!
Proofs for 40_assembler.md R130, R140 and R145, and 42_decoders.md R196 and R198: a received byte by
the family of its session, and the PC-SC transmit.
-/
namespace Sys2Proof.Machine

/-! ### Receive dispatch (R130) -/

section
variable {s : State} (b : Byte) (last : Bool)

theorem rxByte_familyA (hl : s.sess.seq.live = true) (hf : s.sess.fam = .a) :
    rxByte b last s = asmAByte b s :=
  if_pos ⟨hl, hf⟩

theorem rxByte_familyB (hl : s.sess.seq.live = true) (hf : s.sess.fam = .b) :
    rxByte b last s = asmBByte b s := by
  rw [rxByte, if_neg (by simp [hf]), if_pos ⟨hl, hf⟩]

theorem rxByte_pcsc (hc : s.sess.seq = .connected) (hf : s.sess.fam = .pcsc)
    (hbusy : s.rx.pcBusy = true) : rxByte b last s = pcscByte b last s := by
  rw [rxByte, if_neg (by simp [hf]), if_neg (by simp [hf]), if_pos ⟨hc, hf, hbusy⟩]

theorem rxByte_discarded (h : ¬ IsLive s ∨
    (s.sess.fam = .pcsc ∧ (s.sess.seq ≠ .connected ∨ s.rx.pcBusy = false))) :
    rxByte b last s = countDiscard 1 s := by
  have hnotA : ¬(s.sess.seq.live = true ∧ s.sess.fam = .a) := by
    rw [live_iff_isLive]
    rintro ⟨hl, hf⟩
    simp [hl, hf] at h
  have hnotB : ¬(s.sess.seq.live = true ∧ s.sess.fam = .b) := by
    rw [live_iff_isLive]
    rintro ⟨hl, hf⟩
    simp [hl, hf] at h
  have hnotPcsc : ¬(s.sess.seq = .connected ∧ s.sess.fam = .pcsc ∧ s.rx.pcBusy = true) := by
    rintro ⟨hc, hf, hbusy⟩
    simp [IsLive, hc, hbusy] at h
  rw [rxByte, if_neg hnotA, if_neg hnotB, if_neg hnotPcsc]

end

/-- Settles O25. -/
theorem bytesNoSessionTakesAreDiscarded : Obligations.BytesNoSessionTakesAreDiscarded := by
  intro s b last h
  rw [exec_rxByte, rxByte_discarded b last h]
  rfl

/-! ### Family B (R140) -/

section
variable {s : State} {b : Byte}

theorem asmBByte_rejects (hp : s.rx.pend = []) (hb : b.toNat < 4) : asmBByte b s = frameError s := by
  have hult : b.ult Config.bLenMin = true := decide_eq_true hb
  rw [asmBByte, if_pos hp, if_pos hult]

theorem asmBByte_starts (hp : s.rx.pend = []) (hb : 4 ≤ b.toNat) :
    asmBByte b s = withPend [b] s := by
  have hult : ¬ b.ult Config.bLenMin = true := mt of_decide_eq_true (Nat.not_lt.2 hb)
  rw [asmBByte, if_pos hp, if_neg hult]
  rfl

/-- A byte on a begun frame completes it, or is appended. -/
theorem asmBByte_of_pend_ne (hp : s.rx.pend ≠ []) :
    asmBByte b s =
      if (s.rx.pend ++ [b]).length = totalB (s.rx.pend ++ [b]) then
        frameDoneB (s.rx.pend ++ [b]) (countFrame (withPend [] s))
      else withPend (s.rx.pend ++ [b]) s := by
  rw [asmBByte, if_neg hp]
  rfl

end

/-- Settles O28, in the four cases of R140. -/
theorem familyBByteByByte : Obligations.FamilyBByteByByte := by
  intro s b last hlive hfam
  rw [exec_rxByte, rxByte_familyB b last (live_of_isLive hlive) hfam]
  refine ⟨fun hp hb => ?_, fun hp hb => ?_, fun n p hp => ?_⟩
  · rw [asmBByte_rejects hp hb]
    rfl
  · rw [asmBByte_starts hp hb]
    rfl
  · have hdone : (n :: p ++ [b]).length = totalB (n :: p ++ [b]) ↔ p.length + 1 = n.toNat := by
      simp [totalB, byteAt]
    rw [asmBByte_of_pend_ne (by simp [hp]), hp]
    simp only [hdone]
    rfl

/-! ### PC-SC (R145) -/

theorem pcscByte_kept {s : State} (b : Byte) (h : s.rx.pcBuf.length < 258) :
    pcscByte b false s = { s with rx := { s.rx with pcBuf := s.rx.pcBuf ++ [b] } } := by
  have hroom : ¬ Config.pcscMax ≤ s.rx.pcBuf.length := Nat.not_le.2 h
  simp [pcscByte, hroom]

theorem pcscByte_lost {s : State} (b : Byte) (h : 258 ≤ s.rx.pcBuf.length) :
    pcscByte b false s = { s with rx := { s.rx with pcOvf := true } } := by
  have hfull : Config.pcscMax ≤ s.rx.pcBuf.length := h
  simp [pcscByte, hfull]

/-- Settles O29. -/
theorem pcscByteIsCollectedOrLost : Obligations.PcscByteIsCollectedOrLost := by
  intro s b hc hf hbusy
  rw [exec_rxByte, rxByte_pcsc b false hc hf hbusy]
  exact ⟨fun h => congrArg _ (pcscByte_kept b h), fun h => congrArg _ (pcscByte_lost b h)⟩

/-! ### The PC-SC transmit (R196, R198) -/

theorem exec_issueGetUid {i : Instr} (s : State) (h : i ∈ [Instr.cardPresent, .pcscGetUid]) :
    exec i s = .next (issueGetUid s) := by
  simp only [List.mem_cons, List.not_mem_nil, or_false] at h
  rcases h with rfl | rfl <;> rfl

/-- A response is awaited, of which nothing has come. -/
def awaitResponse (s : State) : State :=
  { s with rx := { s.rx with pcBuf := [], pcOvf := false, pcBusy := true } }

theorem issueGetUid_eq (s : State) :
    issueGetUid s =
      if s.sess.seq = .connected ∧ s.sess.fam = .pcsc ∧ s.rx.pcBusy = false then
        txqPush Config.getUidApdu true (awaitResponse s)
      else s := rfl

/-- Settles O38: the push appends its five pairs where they fit, and leaves some queue where they do
not (log 10). -/
theorem cardPresentIssuesTheGetUidCommand : Obligations.CardPresentIssuesTheGetUidCommand := by
  intro s i hi
  have hlen : Config.getUidApdu.length = 5 := rfl
  rw [exec_issueGetUid s hi, issueGetUid_eq]
  refine ⟨fun hnot => by rw [if_neg hnot], fun hissue hroom => ?_, fun hissue hfull => ?_⟩
  · have hfits : (awaitResponse s).tx.txq.length + Config.getUidApdu.length ≤ 24 := by
      rw [hlen]
      exact Nat.add_le_add_right hroom 5
    rw [if_pos hissue, txqPush_of_fits true hfits]
    rfl
  · have hover : 24 < (awaitResponse s).tx.txq.length + Config.getUidApdu.length := by
      rw [hlen]
      exact Nat.add_lt_add_right hfull 5
    obtain ⟨q, hq, hpush⟩ := txqPush_of_not_fits true hover
    rw [if_pos hissue, hpush]
    exact ⟨q, _, hq, rfl⟩

/-- Settles O40. -/
theorem transferErrorEndsTheTransmit : Obligations.TransferErrorEndsTheTransmit :=
  fun _ => rfl

end Sys2Proof.Machine

/-!
Proofs for 42_decoders.md R200 and 40_assembler.md R131, R140, R145 and R147: the event FIFO when it is
full, what decoding a frame does, and whole frames and responses as their bytes.
-/
namespace Sys2Proof.Machine

/-! ### The event FIFO (R200) -/

theorem publish_append (rs rs' : List Record) (s : State) :
    publish (rs ++ rs') s = publish rs' (publish rs s) :=
  List.foldl_append ..

theorem publish_of_room (rs : List Record) {s : State} (h : rs.length ≤ 16 - s.evt.length) :
    publish rs s = { s with evt := s.evt ++ rs } := by
  induction rs generalizing s with
  | nil => simp
  | cons r rs ih =>
    simp only [List.length_cons] at h
    obtain ⟨_, hpush⟩ | ⟨hfull, _⟩ := pushEvt_cases r s
    · rw [publish_cons, hpush, ih (by simp; omega)]
      simp
    · omega

/-- A full FIFO keeps what it holds, and each record lost is counted once. -/
theorem publish_of_full {rs : List Record} {s : State} (hrs : rs ≠ []) (h : 16 ≤ s.evt.length) :
    publish rs s =
      { s with log := { s.log with
        evtOvf := s.log.evtOvf + BitVec.ofNat 32 rs.length, irq := s.log.irq ||| 0x004#10 } } := by
  induction rs generalizing s with
  | nil => exact absurd rfl hrs
  | cons r rs ih =>
    obtain ⟨hroom, _⟩ | ⟨_, hpush⟩ := pushEvt_cases r s
    · omega
    · rw [publish_cons, hpush]
      by_cases hnil : rs = []
      · subst hnil
        rfl
      · have hbit : s.log.irq ||| 0x004#10 ||| 0x004#10 = s.log.irq ||| 0x004#10 := by
          rw [BitVec.or_assoc, BitVec.or_self]
        have hcount : s.log.evtOvf + 1 + BitVec.ofNat 32 rs.length =
            s.log.evtOvf + BitVec.ofNat 32 (rs.length + 1) := by
          rw [BitVec.add_assoc, BitVec.add_comm 1, BitVec.ofNat_add]
          rfl
        rw [ih hnil (s := logCause .evtOvf s) h, List.length_cons, ← hcount, ← hbit]
        rfl

/-- Settles O50: the records that fit are appended, and the others find the FIFO full. -/
theorem fullFifoKeepsTheOldestRecords : Obligations.FullFifoKeepsTheOldestRecords := by
  intro rs s room
  have hsplit : publish rs s = publish (rs.drop room) { s with evt := s.evt ++ rs.take room } := by
    rw [← publish_of_room (rs.take room) (List.length_take_le ..), ← publish_append,
      List.take_append_drop]
  rw [hsplit]
  by_cases hle : rs.length ≤ room
  · rw [List.drop_eq_nil_of_le hle, if_pos hle, publish_nil]
  · have hne : rs.drop room ≠ [] := by simpa using hle
    have hfull : 16 ≤ (s.evt ++ rs.take room).length := by
      simp only [List.length_append, List.length_take]
      omega
    have hlost := publish_of_full (s := { s with evt := s.evt ++ rs.take room }) hne hfull
    rw [hlost, if_neg hle, List.length_drop]

/-! ### What a decoded frame does (R201 to R203) -/

/-- The log with one frame more (10_state.md R44). -/
def Log.counted (l : Log) : Log := { l with frames := l.frames + 1 }

/-- The log with one integrity check failed more (42_decoders.md R181, R190). -/
def Log.plusCsumErr (l : Log) : Log :=
  { l with csumErr := l.csumErr + 1, irq := l.irq ||| 0x008#10 }

/-- What an outcome adds to the log (R201, R203). -/
def FrameOutcome.log (o : FrameOutcome) (l : Log) : Log :=
  match o with
  | .frameError => l.plusFrameErr
  | .protocolError code => l.plusProtoErr code
  | .ack | .tagBatch _ | .noTags | .dropped => l

/-- What a decoded frame adds to the log (R202). -/
def Decoded.log (d : Decoded) (l : Log) : Log :=
  let l := if d.csumErr then l.plusCsumErr else l
  d.outcome.log (if d.cut then l.plusPartial else l)

/-- The records of a decoded frame: none without a header. -/
def Decoded.records (fam : Family) (d : Decoded) : List Record :=
  match d.hdr with
  | none => []
  | some h => recordsOf fam h d.csumErr d.outcome

theorem logOutcome_eq (o : FrameOutcome) (s : State) :
    logOutcome o s = { s with log := o.log s.log } := by
  cases o <;> rfl

theorem logDecoded_eq (d : Decoded) (s : State) :
    logDecoded d s = { s with log := d.log s.log } := by
  obtain ⟨hdr, csumErr, cut, o⟩ := d
  cases csumErr <;> cases cut <;> exact logOutcome_eq o _

theorem deliver_eq (fam : Family) (d : Decoded) (s : State) :
    deliver fam d s = route d.hdr (d.records fam) { s with log := d.log s.log } := by
  rw [← logDecoded_eq]
  obtain ⟨hdr, csumErr, cut, o⟩ := d
  cases hdr <;> rfl

/-- In CONNECTED a decoded frame is logged and its records are published. -/
theorem deliver_connected (fam : Family) (d : Decoded) {s : State} (h : s.sess.seq = .connected) :
    deliver fam d s = publish (d.records fam) { s with log := d.log s.log } := by
  rw [deliver_eq]
  exact if_pos h

/-- Outside CONNECTED a decoded frame is logged, and completes the step it answers. -/
theorem deliver_not_connected (fam : Family) (d : Decoded) {s : State}
    (h : s.sess.seq ≠ .connected) :
    deliver fam d s =
      if s.sess.seq = .initWait ∧ d.hdr = some (expectedHeader s) then
        stepResponseMatched { s with log := d.log s.log }
      else { s with log := d.log s.log } := by
  rw [deliver_eq]
  exact if_neg h

/-! ### The row of a frame, as an operation and as bytes -/

/-- The decoder that 30_encoding.md R106 selects for a family B frame. -/
def decodeSelectedB (f : List Byte) : Decoded :=
  match selectB f with
  | .crcDrop => decodeBCrcDrop f
  | .inventory => decodeBInventory f
  | .ack => decodeBAck f

theorem frameDoneB_eq_deliver (f : List Byte) (s : State) :
    frameDoneB f s = deliver .b (decodeSelectedB f) s := by
  unfold frameDoneB decodeSelectedB
  cases selectB f <;> rfl

theorem exec_instrOfRowA (sel : Selectors) (f : List Byte) (s : State) :
    exec (instrOfRowA f (selectA sel f)) s =
      .next (receiveFrame .a (fun _ => deliver .a (decodeSelectedA sel f)) f s) := by
  unfold decodeSelectedA
  cases selectA sel f <;> rfl

theorem exec_instrOfRowB (f : List Byte) (s : State) :
    exec (instrOfRowB f (selectB f)) s =
      .next (receiveFrame .b (fun _ => deliver .b (decodeSelectedB f)) f s) := by
  unfold decodeSelectedB
  cases selectB f <;> rfl

/-! ### A family A frame as its bytes -/

/-- A whole frame's bytes at a boundary complete it (40_assembler.md R131, R147). -/
theorem rxBytes_frameA {f : List Byte} {s : State} (hf : isFrameA f = true)
    (hl : s.sess.seq.live = true) (hfam : s.sess.fam = .a) (hp : s.rx.pend = []) :
    rxBytes f s = frameDoneA f (countFrame s) := by
  have hs : ReceivesA s := ⟨hl, hfam, by rw [hp]; decide⟩
  have hself : withPend [] s = s := by rw [← hp, withPend_self]
  have hdone := (keepsReceiver_frameDoneA f).comp keepsReceiver_countFrame
  have hpend : (frameDoneA f (countFrame s)).rx.pend = [] := by rw [hdone.keeps_rx, hp]
  have happend : asmAAppend f s = assembleA (f.length + 1) (withPend (f ++ []) s) := by
    show assembleA ((s.rx.pend ++ f).length + 1) (withPend (s.rx.pend ++ f) s) = _
    rw [hp, List.nil_append, List.append_nil]
  rw [rxBytes_eq_asmAAppend f hs, happend, assembleA_succ_append_of_isFrameA _ _ _ hf, hself,
    ← hpend, withPend_self]
  exact assembleA_of_pendOk _ (by rw [hpend]; decide)

/-! ### A family B frame as its bytes -/

theorem isFrameB_iff {f : List Byte} :
    isFrameB f = true ↔ 4 ≤ (byteAt f 0).toNat ∧ f.length = totalB f := by
  simp only [isFrameB, Bool.and_eq_true, beq_iff_eq]
  exact and_congr_left' (decide_eq_true_iff (p := 4 ≤ _))

theorem totalB_append {f : List Byte} (g : List Byte) (h : f ≠ []) : totalB (f ++ g) = totalB f := by
  rw [totalB, totalB, byteAt_zero_append g h]

/-- The bytes of a begun frame are kept while they do not complete it. -/
theorem rxBytes_familyB_begun (g : List Byte) {p : List Byte} {s : State}
    (hl : s.sess.seq.live = true) (hfam : s.sess.fam = .b) (hne : p ≠ [])
    (hlt : p.length + g.length < totalB p) :
    rxBytes g (withPend p s) = withPend (p ++ g) s := by
  induction g generalizing p with
  | nil => rw [List.append_nil, rxBytes_nil]
  | cons b g ih =>
    rw [List.length_cons] at hlt
    have hnot : (p ++ [b]).length ≠ totalB (p ++ [b]) := by
      rw [totalB_append _ hne, List.length_append, List.length_singleton]
      omega
    rw [rxBytes_cons, rxByte_familyB (s := withPend p s) b false hl hfam,
      asmBByte_of_pend_ne (s := withPend p s) hne, withPend_rx_pend, if_neg hnot,
      withPend_withPend, ih (by simp) (by rw [totalB_append _ hne]; simp; omega),
      List.append_assoc, List.singleton_append]

/-- A whole frame's bytes at a boundary complete it (40_assembler.md R140, R147). -/
theorem rxBytes_frameB {f : List Byte} {s : State} (hf : isFrameB f = true)
    (hl : s.sess.seq.live = true) (hfam : s.sess.fam = .b) (hp : s.rx.pend = []) :
    rxBytes f s = frameDoneB f (countFrame s) := by
  obtain ⟨hmin, hlen⟩ := isFrameB_iff.1 hf
  have hself : withPend [] s = s := by rw [← hp, withPend_self]
  have hlong : 5 ≤ f.length := by rw [hlen, totalB]; omega
  obtain ⟨q, b, rfl⟩ := (List.eq_nil_or_concat f).resolve_left (List.ne_nil_of_length_pos (by omega))
  rw [List.concat_eq_append] at *
  obtain ⟨n, g, rfl⟩ := List.exists_cons_of_length_pos (l := q) (by simp at hlong; omega)
  have hn : 4 ≤ n.toNat := hmin
  have hbegun : rxBytes (n :: g) s = withPend (n :: g) s := by
    rw [rxBytes_cons, rxByte_familyB n false hl hfam, asmBByte_starts hp hn,
      rxBytes_familyB_begun g hl hfam (by simp) (by simp [totalB, byteAt] at hlen ⊢; omega)]
    rfl
  rw [rxBytes_append, hbegun, rxBytes_cons, rxBytes_nil,
    rxByte_familyB (s := withPend (n :: g) s) b false hl hfam,
    asmBByte_of_pend_ne (s := withPend (n :: g) s) (by simp), withPend_rx_pend, if_pos hlen,
    withPend_withPend, hself]

/-! ### A response as its bytes -/

/-- A PC-SC session of which these bytes of the awaited response have come: the buffer holds the
first 258 of them (40_assembler.md R145). -/
def withResponse (r : List Byte) (s : State) : State :=
  { s with rx := { s.rx with pcBuf := r.take 258, pcOvf := decide (258 < r.length) } }

/-- The awaited response has ended the transmit and is counted. -/
def responseDone (s : State) : State :=
  countFrame { s with rx := { s.rx with pcBuf := [], pcOvf := false, pcBusy := false } }

/-- One byte more is kept while 258 are not held, and else lost. -/
theorem take_258_snoc (r : List Byte) (b : Byte) :
    (if 258 ≤ (r.take 258).length then r.take 258 else r.take 258 ++ [b]) = (r ++ [b]).take 258 ∧
      (decide (258 < r.length) || decide (258 ≤ (r.take 258).length)) =
        decide (258 < (r ++ [b]).length) := by
  rw [List.length_take, List.length_append, List.length_singleton]
  by_cases h : 258 ≤ r.length
  · have htake : (r ++ [b]).take 258 = r.take 258 := List.take_append_of_le_length h
    rw [if_pos (by omega), htake]
    simp
    omega
  · have htake : (r ++ [b]).take 258 = r ++ [b] := List.take_of_length_le (by simp; omega)
    rw [if_neg (by omega), htake, List.take_of_length_le (by omega)]
    simp
    omega

theorem pcscByte_withResponse (r : List Byte) (b : Byte) (s : State) :
    pcscByte b false (withResponse r s) = withResponse (r ++ [b]) s := by
  obtain ⟨hbuf, hovf⟩ := take_258_snoc r b
  rw [withResponse.eq_def (r ++ [b]), ← hbuf, ← hovf]
  rfl

theorem pcscByte_withResponse_last (r : List Byte) (b : Byte) (s : State) :
    pcscByte b true (withResponse r s) =
      frameDonePcsc ((r ++ [b]).take 258) (decide (258 < (r ++ [b]).length)) (responseDone s) := by
  obtain ⟨hbuf, hovf⟩ := take_258_snoc r b
  rw [← hbuf, ← hovf]
  rfl

theorem rxBytes_response (r : List Byte) {s : State} (h : AwaitsResponse s) :
    rxBytes r s = withResponse r s := by
  obtain ⟨hc, hf, hbusy, hbuf, hovf⟩ := h
  induction r using List.reverseRecOn with
  | nil =>
    rw [rxBytes_nil]
    show s = { s with rx := { s.rx with pcBuf := [], pcOvf := false } }
    rw [← hbuf, ← hovf]
  | append_singleton r b ih =>
    rw [rxBytes_append, ih, rxBytes_cons, rxBytes_nil,
      rxByte_pcsc (s := withResponse r s) b false hc hf hbusy, pcscByte_withResponse]

theorem rxBytesLast_append (r : List Byte) (b : Byte) (s : State) :
    rxBytesLast (r ++ [b]) s = rxByte b true (rxBytes r s) := by
  induction r generalizing s with
  | nil => rfl
  | cons x r ih =>
    rw [rxBytes_cons, ← ih]
    cases r <;> rfl

/-- An awaited response's bytes end the transmit and are decoded (40_assembler.md R145). -/
theorem rxBytesLast_response (r : List Byte) (b : Byte) {s : State} (h : AwaitsResponse s) :
    rxBytesLast (r ++ [b]) s =
      frameDonePcsc ((r ++ [b]).take 258) (decide (258 < (r ++ [b]).length)) (responseDone s) := by
  obtain ⟨hc, hf, hbusy, -, -⟩ := id h
  rw [rxBytesLast_append, rxBytes_response r h,
    rxByte_pcsc (s := withResponse r s) b true hc hf hbusy, pcscByte_withResponse_last]

/-- While none of an awaited response has come, a whole one ends the transmit, is counted and decoded by
its row. -/
theorem receiveResponse_awaited (row : State → State) {r : List Byte} {s : State}
    (h : AwaitsResponse s) (hr : r ≠ []) : receiveResponse row r s = row (responseDone s) := by
  obtain ⟨hc, hf, hbusy, hbuf, hovf⟩ := h
  rw [receiveResponse, if_pos ⟨hc, hf, hbusy, hbuf, hovf, hr⟩, responseDone, ← hbuf, ← hovf]

theorem receiveResponse_otherwise (row : State → State) (r : List Byte) {s : State}
    (h : ¬ AwaitsResponse s) : receiveResponse row r s = rxBytesLast r s :=
  if_neg fun ⟨hc, hf, hbusy, hbuf, hovf, _⟩ => h ⟨hc, hf, hbusy, hbuf, hovf⟩

/-- The operation of a response's row runs the row that the collector selects for it. -/
theorem exec_instrOfRowPcsc {r : List Byte} (hr : r ≠ []) (s : State) :
    exec (instrOfRowPcsc r (responseRow r)) s =
      .next (receiveResponse (frameDonePcsc (r.take 258) (decide (258 < r.length))) r s) := by
  have hpos : 0 < r.length := List.length_pos_iff.2 hr
  have hdone : frameDonePcsc (r.take 258) (decide (258 < r.length)) =
      fun u => match responseRow r with
        | .frameError => rowPcscFrameError u
        | .noTags => rowPcscNotags u
        | .tag => rowPcscTag (uidOf (r.take 258)) u
        | .protoError => rowPcscProtoError (r.take 258) u := rfl
  rw [hdone]
  by_cases hlen : r.length < 2 ∨ 258 < r.length
  · rw [responseRow_of_bad_length hlen]
    rfl
  · obtain ⟨uid, sw1, sw2, rfl⟩ := exists_append_statusBytes (r := r) (by omega)
    have huid : uid.length ≤ 256 := by simp at hlen; omega
    rw [responseRow_append huid, List.take_of_length_le (by omega)]
    split
    case isTrue hsw =>
      obtain ⟨rfl, rfl⟩ := hsw
      split
      case isTrue hnil =>
        subst hnil
        rfl
      case isFalse =>
        simp only [instrOfRowPcsc, uidOf_append]
        rfl
    case isFalse => rfl

/-! ### The statement -/

theorem execAll_rxByte_last (r : List Byte) (b : Byte) (s : State) :
    execAll (r.map (fun x => .rxByte x false) ++ [.rxByte b true]) s =
      .next (rxBytesLast (r ++ [b]) s) := by
  rw [rxBytesLast_append]
  induction r generalizing s with
  | nil => rfl
  | cons x r ih => exact ih (rxByte x false s)

/-- A whole frame is its bytes, at a boundary of a live session and anywhere else. -/
theorem receiveFrame_eq_rxBytes {fam : Family} {row : List Byte → State → State} {f : List Byte}
    {s : State} (h : s.sess.seq.live = true → s.sess.fam = fam → s.rx.pend = [] →
      rxBytes f s = row f (countFrame s)) : receiveFrame fam row f s = rxBytes f s := by
  by_cases hb : s.sess.seq.live = true ∧ s.sess.fam = fam ∧ s.rx.pend = []
  · obtain ⟨hl, hf, hp⟩ := hb
    rw [receiveFrame_boundary row f hl hf hp, h hl hf hp]
  · exact receiveFrame_otherwise row f hb

/-- Settles O42, by the family of the frame. -/
theorem wholeFrameEqualsItsBytes : Obligations.WholeFrameEqualsItsBytes := by
  refine fun s f i => ⟨fun h => ?_, fun r b h => ?_⟩
  · rw [execAll_rxByte]
    rcases h with h | h
    · obtain ⟨hframe, rfl⟩ := of_decode_frameA h
      rw [exec_instrOfRowA, receiveFrame_eq_rxBytes fun hl hf hp => ?_]
      rw [rxBytes_frameA hframe hl hf hp, frameDoneA_eq_deliver]
      rfl
    · obtain ⟨hframe, rfl⟩ := of_decode_frameB h
      rw [exec_instrOfRowB, receiveFrame_eq_rxBytes fun hl hf hp => ?_]
      rw [rxBytes_frameB hframe hl hf hp, frameDoneB_eq_deliver]
  · obtain ⟨hne, rfl⟩ := of_decode_response h
    rw [execAll_rxByte_last, exec_instrOfRowPcsc hne]
    by_cases ha : AwaitsResponse s
    · rw [receiveResponse_awaited _ ha hne, rxBytesLast_response r b ha]
    · rw [receiveResponse_otherwise _ _ ha]

end Sys2Proof.Machine

/-!
Proofs for 42_decoders.md R180 to R197 and R202: what a whole frame or response leaves. In CONNECTED a
frame's log and records are those of what its decoder finds; during the init script the log is, and the
header may complete the step.
-/
namespace Sys2Proof.Machine

/-! ### A frame at a boundary -/

theorem receiveFrame_connected {fam : Family} {s : State} (d : Decoded) (f : List Byte)
    (h : AtBoundary fam s) :
    receiveFrame fam (fun _ => deliver fam d) f s =
      publish (d.records fam) { s with log := d.log s.log.counted } := by
  obtain ⟨hc, hf, hp⟩ := h
  rw [receiveFrame_boundary _ f (by rw [hc]; rfl) hf hp, deliver_connected (s := countFrame s) fam d hc]
  rfl

theorem receiveFrame_script {fam : Family} {s : State} (d : Decoded) (f : List Byte)
    (hseq : s.sess.seq = .initTx ∨ s.sess.seq = .initWait ∨ s.sess.seq = .initDelay)
    (hf : s.sess.fam = fam) (hp : s.rx.pend = []) :
    receiveFrame fam (fun _ => deliver fam d) f s =
      if s.sess.seq = .initWait ∧ d.hdr = some (expectedHeader s) then
        stepResponseMatched { s with log := d.log s.log.counted }
      else { s with log := d.log s.log.counted } := by
  have hl : s.sess.seq.live = true := by rcases hseq with h | h | h <;> rw [h] <;> rfl
  have hc : s.sess.seq ≠ .connected := by rcases hseq with h | h | h <;> rw [h] <;> simp
  rw [receiveFrame_boundary _ f hl hf hp, deliver_not_connected (s := countFrame s) fam d hc]
  rfl

/-- The log of a family A frame that is not length-malformed and not dropped (R181). -/
theorem log_checkedA (hdr : Option (Byte × Byte)) (f : List Byte) (cut : Bool) (o : FrameOutcome)
    (l : Log) :
    Decoded.log ⟨hdr, !csumOk f, cut, o⟩ l.counted =
      o.log (if cut then (logAfterCheckA f l).plusPartial else logAfterCheckA f l) := by
  cases h : csumOk f <;> simp [Decoded.log, logAfterCheckA, h, Log.counted, Log.plusCsumErr]

/-! ### Family A inventory responses (R183, R184) -/

theorem noStatusA_iff {f : List Byte} : noStatusA f = true ↔ f.length < 7 :=
  decide_eq_true_iff

theorem inventoryIdA_eq (f : List Byte) : inventoryIdA f = (f.drop 6).take (f.length - 7) := by
  have hcount : f.length - 1 - 1 + 1 - 6 = f.length - 7 := by omega
  show (f.drop 6).take (f.length - 1 - 1 + 1 - 6) = _
  rw [hcount]

theorem outcomeInventoryA_eq (f : List Byte) :
    outcomeInventoryA f =
      if f.length < 7 ∨ (f.length = 7 ∧ byteAt f 5 = 0x01#8) then .frameError
      else if byteAt f 5 = 0x01#8 then .tagBatch [(f.drop 6).take (f.length - 7)]
      else if byteAt f 5 = 0x00#8 then .noTags
      else .protocolError ((byteAt f 5).setWidth 16) := by
  have hempty : 7 ≤ f.length → ((f.drop 6).take (f.length - 7) = [] ↔ f.length = 7) := by
    intro h
    rw [← List.length_eq_zero_iff, List.length_take, List.length_drop]
    omega
  simp only [outcomeInventoryA, noStatusA_iff, inventoryIdA_eq]
  by_cases hshort : f.length < 7
  · rw [if_pos hshort, if_pos (.inl hshort)]
  · simp only [if_neg hshort, hempty (by omega)]
    by_cases hst : byteAt f 5 = 0x01#8
    · simp [Config.aStatusIdx, hst, hshort]
    · simp [Config.aStatusIdx, hst, hshort]
      rfl

/-- Settles O43: the records and the log of the frame's outcome. -/
theorem familyAInventoryOutcome : Obligations.FamilyAInventoryOutcome := by
  intro s f hb _ _ l st
  show Host.Outcome.next (receiveFrame .a (fun _ => deliver .a (decodeAInventory f)) f s) = _
  rw [receiveFrame_connected _ f hb]
  simp only [decodeAInventory, log_checkedA, Decoded.records, outcomeInventoryA_eq]
  split
  · rfl
  · split
    · rfl
    · split <;> rfl

/-! ### Family A buffer responses (R185) -/

theorem slotFits_iff {f : List Byte} {j : Nat} : slotFits f j = true ↔ j < (f.length - 7) / 12 := by
  have hfits : slotFits f j = true ↔ 5 + 12 + 12 * j + 2 ≤ f.length := decide_eq_true_iff
  rw [hfits]
  omega

theorem slotAt_eq (f : List Byte) (j : Nat) : slotAt f j = (f.drop (6 + 12 * j)).take 12 := by
  have hcount : 5 + 12 + 12 * j + 1 - (5 + 1 + 12 * j) = 12 := by omega
  show (f.drop (5 + 1 + 12 * j)).take (5 + 12 + 12 * j + 1 - (5 + 1 + 12 * j)) = _
  rw [hcount]

/-- The walk over the slots takes those among the announced that lie before the checksum. -/
theorem slotsFrom_eq (f : List Byte) (count j : Nat) :
    slotsFrom f count j =
      ((List.range' j (min count ((f.length - 7) / 12 - j))).map fun i =>
          (f.drop (6 + 12 * i)).take 12,
        decide ((f.length - 7) / 12 - j < count)) := by
  induction count generalizing j with
  | zero => simp [slotsFrom]
  | succ n ih =>
    simp only [slotsFrom, slotFits_iff]
    split
    case isTrue hfit =>
      have hmin : min (n + 1) ((f.length - 7) / 12 - j) =
          min n ((f.length - 7) / 12 - (j + 1)) + 1 := by omega
      have hmore : (f.length - 7) / 12 - j < n + 1 ↔ (f.length - 7) / 12 - (j + 1) < n := by omega
      rw [ih, hmin, List.range'_succ, List.map_cons, slotAt_eq]
      simp only [hmore]
    case isFalse hover =>
      have hnone : (f.length - 7) / 12 - j = 0 := by omega
      simp [hnone]

theorem bufferSlotsA_eq (f : List Byte) :
    bufferSlotsA f =
      ((List.range (min (byteAt f 5).toNat ((f.length - 7) / 12))).map fun j =>
          (f.drop (6 + 12 * j)).take 12,
        decide ((f.length - 7) / 12 < (byteAt f 5).toNat)) := by
  show slotsFrom f (byteAt f 5).toNat 0 = _
  rw [slotsFrom_eq, Nat.sub_zero, List.range_eq_range']

/-- The records of a batch: TAGs, or one NOTAGS (42_decoders.md R185, R192). -/
theorem recordsOf_batchOutcome (fam : Family) (hdr : Byte × Byte) (csumBad : Bool)
    (ids : List (List Byte)) :
    recordsOf fam hdr csumBad (batchOutcome ids) =
      batchRecords (fun kind id => ⟨kind, fam, csumBad, hdr.2, hdr.1, 0#16, id⟩) ids := by
  rw [batchOutcome, batchRecords]
  split <;> rfl

theorem log_batchOutcome (ids : List (List Byte)) (l : Log) : (batchOutcome ids).log l = l := by
  rw [batchOutcome]
  split <;> rfl

theorem decodeABuffer_eq (f : List Byte) :
    decodeABuffer f =
      if f.length < 7 then ⟨some (headerOfA f), !csumOk f, false, .frameError⟩
      else ⟨some (headerOfA f), !csumOk f, (bufferSlotsA f).2, batchOutcome (bufferSlotsA f).1⟩ := by
  simp only [decodeABuffer, noStatusA_iff]

/-- Settles O44: the slots are those of `slotsFrom_eq`. -/
theorem familyABufferOutcome : Obligations.FamilyABufferOutcome := by
  intro s f hb _ _ l count k
  show Host.Outcome.next (receiveFrame .a (fun _ => deliver .a (decodeABuffer f)) f s) = _
  have hcut : k < count ↔ (f.length - 7) / 12 < count := by omega
  rw [receiveFrame_connected _ f hb, decodeABuffer_eq]
  split
  · rw [log_checkedA]
    rfl
  · simp only [log_checkedA, log_batchOutcome, Decoded.records, recordsOf_batchOutcome,
      bufferSlotsA_eq, decide_eq_true_eq, hcut]
    rfl

/-! ### The other family A rows (R180, R181, R186) -/

/-- Settles O45. -/
theorem familyAAckErrorAndStrictDrop : Obligations.FamilyAAckErrorAndStrictDrop := by
  intro s f hb
  refine ⟨fun _ _ => ?_, fun _ _ => ?_, fun _ _ => ?_⟩
  · show Host.Outcome.next (receiveFrame .a (fun _ => deliver .a (decodeAAck f)) f s) = _
    rw [receiveFrame_connected _ f hb, decodeAAck, log_checkedA]
    rfl
  · show Host.Outcome.next (receiveFrame .a (fun _ => deliver .a (decodeAFrameError f)) f s) = _
    rw [receiveFrame_connected _ f hb]
    rfl
  · show Host.Outcome.next (receiveFrame .a (fun _ => deliver .a (decodeAStrictDrop f)) f s) = _
    rw [receiveFrame_connected _ f hb]
    rfl

/-! ### Family B tag records (R192) -/

/-- The walk of R192 over the bytes that hold the records: the identifiers found, and whether the bytes
ran out. -/
def walkRecords : Nat → List Byte → List (List Byte) × Bool
  | 0, _ => ([], false)
  | _ + 1, [] => ([], true)
  | n + 1, l :: bs =>
    if l.toNat ≤ bs.length then
      let r := walkRecords n (bs.drop l.toNat)
      (if l.toNat = 0 then r.1 else bs.take l.toNat :: r.1, r.2)
    else ([], true)

theorem byteAt_append_length (pre g : List Byte) (l : Byte) :
    byteAt (pre ++ l :: g) pre.length = l := by
  simp [byteAt]

/-- The model's walk by indexes is the walk over the bytes before the CRC. -/
theorem recordsFrom_eq_walkRecords (n : Nat) (pre region : List Byte) (lo hi : Byte) :
    recordsFrom (pre ++ region ++ [lo, hi]) n pre.length = walkRecords n region := by
  induction n generalizing pre region with
  | zero => rfl
  | succ n ih =>
    cases region with
    | nil =>
      have hshort : ¬ pre.length + 3 ≤ (pre ++ [] ++ [lo, hi]).length := by simp
      rw [recordsFrom, if_neg hshort, walkRecords]
    | cons l bs =>
      have hroom : pre.length + 3 ≤ (pre ++ l :: bs ++ [lo, hi]).length := by simp
      have hlen : byteAt (pre ++ l :: bs ++ [lo, hi]) pre.length = l := by
        rw [List.append_assoc, List.cons_append, byteAt_append_length]
      have hwhole : pre.length + l.toNat + 3 ≤ (pre ++ l :: bs ++ [lo, hi]).length ↔
          l.toNat ≤ bs.length := by simp; omega
      simp only [recordsFrom, if_pos hroom, hlen, hwhole, walkRecords]
      split
      case isTrue hle =>
        have hnext : recordsFrom (pre ++ l :: bs ++ [lo, hi]) n (pre.length + 1 + l.toNat) =
            walkRecords n (bs.drop l.toNat) := by
          have hih := ih (pre ++ l :: bs.take l.toNat) (bs.drop l.toNat)
          have hpre : (pre ++ l :: bs.take l.toNat).length = pre.length + 1 + l.toNat := by
            simp [hle]
            omega
          have happ : pre ++ l :: bs.take l.toNat ++ bs.drop l.toNat = pre ++ l :: bs := by simp
          rwa [hpre, happ] at hih
        have hid : slice (pre ++ l :: bs ++ [lo, hi]) (pre.length + 1) (pre.length + l.toNat) =
            bs.take l.toNat := by
          have hcount : pre.length + l.toNat + 1 - (pre.length + 1) = l.toNat := by omega
          rw [slice, hcount, List.append_assoc, List.cons_append, ← List.drop_drop,
            List.drop_left, List.drop_succ_cons, List.drop_zero, List.take_append_of_le_length hle]
        rw [hnext, hid]
      case isFalse => rfl

/-- Whole records are walked one by one; those without bytes give no identifier. -/
theorem walkRecords_tagRecordBytes (ids : List (List Byte)) (tail : List Byte) (m : Nat)
    (h : ∀ id ∈ ids, id.length ≤ 255) :
    walkRecords (ids.length + m) (tagRecordBytes ids ++ tail) =
      (ids.filter (· ≠ []) ++ (walkRecords m tail).1, (walkRecords m tail).2) := by
  induction ids with
  | nil => simp [tagRecordBytes]
  | cons id ids ih =>
    have hlen : (BitVec.ofNat 8 id.length).toNat = id.length := by
      have := h id List.mem_cons_self
      rw [BitVec.toNat_ofNat]
      omega
    have hbytes : tagRecordBytes (id :: ids) ++ tail =
        BitVec.ofNat 8 id.length :: (id ++ (tagRecordBytes ids ++ tail)) := by
      simp [tagRecordBytes]
    have hcount : (id :: ids).length + m = ids.length + m + 1 := by simp; omega
    rw [hbytes, hcount, walkRecords, hlen, if_pos (by simp)]
    simp only [List.drop_left, List.take_left, ih fun id' h' => h id' (List.mem_cons_of_mem _ h')]
    by_cases hnil : id = []
    · simp [hnil]
    · simp [hnil]

theorem tagRecordsB_eq (pre region : List Byte) (lo hi : Byte) (h : pre.length = 5) :
    tagRecordsB (pre ++ region ++ [lo, hi]) =
      walkRecords (byteAt (pre ++ region ++ [lo, hi]) 4).toNat region := by
  rw [tagRecordsB, ← h]
  exact recordsFrom_eq_walkRecords _ pre region lo hi

/-! ### Family B frames in CONNECTED -/

theorem carriesTagsB_iff {st : Byte} : carriesTagsB st = true ↔ st = 0x01#8 := by
  simp [carriesTagsB, Config.bTagStatusSet]

/-- What an inventory response shows, by its length and status (R191 to R193). -/
theorem decodeBInventory_eq (f : List Byte) :
    decodeBInventory f =
      if f.length < 6 ∨ (byteAt f 3 = 0x01#8 ∧ f.length = 6) then
        ⟨some (headerOfB f), false, false, .frameError⟩
      else if byteAt f 3 = 0xFB#8 then ⟨some (headerOfB f), false, false, .noTags⟩
      else if byteAt f 3 ≠ 0x01#8 then
        ⟨some (headerOfB f), false, false, .protocolError ((byteAt f 3).setWidth 16)⟩
      else ⟨some (headerOfB f), false, (tagRecordsB f).2, batchOutcome (tagRecordsB f).1⟩ := by
  simp only [decodeBInventory, Bool.not_eq_true', Bool.eq_false_iff, ne_eq, carriesTagsB_iff,
    Config.bStatusNoTags]
  by_cases hshort : f.length < 6
  · simp [hshort]
  · by_cases hst : byteAt f 3 = 0x01#8
    · have h7 : f.length < 7 ↔ f.length = 6 := by omega
      simp [hshort, hst, h7]
    · simp [hshort, hst]

theorem exec_bInventory_connected {s : State} (f : List Byte) (h : AtBoundary .b s) :
    exec (.bInventory f) s =
      .next (publish ((decodeBInventory f).records .b)
        { s with log := (decodeBInventory f).log s.log.counted }) :=
  congrArg Host.Outcome.next (receiveFrame_connected (decodeBInventory f) f h)

/-- Settles O46: the walk over the bytes the records are written in. -/
theorem familyBTagRecordsOutcome : Obligations.FamilyBTagRecordsOutcome := by
  intro s f n addr count lo hi ids tail hb _ hf hids recs l
  have hwalk : tagRecordsB f = walkRecords count.toNat (tagRecordBytes ids ++ tail) := by
    have hbytes : f = [n, addr, 0x01#8, 0x01#8, count] ++ (tagRecordBytes ids ++ tail) ++ [lo, hi] := by
      rw [hf]
      simp
    rw [hbytes, tagRecordsB_eq _ _ _ _ rfl]
    rfl
  have hdecode : decodeBInventory f =
      ⟨some (headerOfB f), false, (tagRecordsB f).2, batchOutcome (tagRecordsB f).1⟩ := by
    have hst : byteAt f 3 = 0x01#8 := by rw [hf]; rfl
    have hlen : 7 ≤ f.length := by rw [hf]; simp; omega
    rw [decodeBInventory_eq, hst, if_neg (by simp; omega), if_neg (by decide), if_neg (by simp)]
  rw [exec_bInventory_connected f hb, hdecode, hwalk]
  refine ⟨fun hcount => ?_, fun hmore htail => ?_⟩
  · have hall := walkRecords_tagRecordBytes ids tail 0 hids
    rw [Nat.add_zero, ← hcount, walkRecords, List.append_nil] at hall
    rw [hall]
    simp only [Decoded.records, recordsOf_batchOutcome, Decoded.log, log_batchOutcome]
    rfl
  · obtain ⟨m, hm⟩ := Nat.exists_eq_add_of_lt hmore
    have hall := walkRecords_tagRecordBytes ids tail (m + 1) hids
    have hover : walkRecords (m + 1) tail = ([], true) := by
      cases tail with
      | nil => rfl
      | cons t bs =>
        have hlong : ¬ t.toNat ≤ bs.length := by simpa using htail
        rw [walkRecords, if_neg hlong]
    rw [← Nat.add_assoc, ← hm, hover, List.append_nil] at hall
    rw [hall]
    simp only [Decoded.records, recordsOf_batchOutcome, Decoded.log, log_batchOutcome]
    rfl

/-- Settles O47. -/
theorem familyBOtherOutcomes : Obligations.FamilyBOtherOutcomes := by
  intro s f hb l st
  refine ⟨fun _ hshort => ?_, fun _ hlen hst => ?_, fun _ hlen hfb hst => ?_, fun _ => ?_, fun _ => ?_⟩
  · rw [exec_bInventory_connected f hb, decodeBInventory_eq, if_pos hshort]
    rfl
  · have hlong : ¬(f.length < 6 ∨ (byteAt f 3 = 0x01#8 ∧ f.length = 6)) := by
      have : byteAt f 3 = 0xFB#8 := hst
      simp [this]
      omega
    rw [exec_bInventory_connected f hb, decodeBInventory_eq, if_neg hlong, if_pos hst]
    rfl
  · have hlong : ¬(f.length < 6 ∨ (byteAt f 3 = 0x01#8 ∧ f.length = 6)) := by
      have : byteAt f 3 ≠ 0x01#8 := hst
      simp [this]
      omega
    rw [exec_bInventory_connected f hb, decodeBInventory_eq, if_neg hlong, if_neg hfb, if_pos hst]
    rfl
  · show Host.Outcome.next (receiveFrame .b (fun _ => deliver .b (decodeBAck f)) f s) = _
    rw [receiveFrame_connected _ f hb]
    rfl
  · show Host.Outcome.next (receiveFrame .b (fun _ => deliver .b (decodeBCrcDrop f)) f s) = _
    rw [receiveFrame_connected _ f hb]
    rfl

/-! ### PC-SC responses (R197) -/

theorem responseDone_of_awaits {s : State} (h : AwaitsResponse s) :
    responseDone s = { s with
      rx := { s.rx with pcBusy := false }, log := s.log.counted } := by
  obtain ⟨-, -, -, hbuf, hovf⟩ := h
  rw [responseDone, ← hbuf, ← hovf]
  rfl

theorem statusWord_append_eq_ofNat (r : List Byte) (sw1 sw2 : Byte) :
    statusWord (r ++ [sw1, sw2]) = BitVec.ofNat 16 (256 * sw1.toNat + sw2.toNat) := by
  rw [statusWord_append]
  apply BitVec.eq_of_toNat_eq
  rw [toNat_append_eq_add, BitVec.toNat_ofNat]
  omega

/-- Settles O48. -/
theorem pcscResponseOutcome : Obligations.PcscResponseOutcome := by
  intro s h t
  have hdone : responseDone s = t := responseDone_of_awaits h
  refine ⟨fun r hr => ?_, ?_, fun uid _ _ => ?_, fun r sw1 sw2 _ _ => ?_⟩
  · show Host.Outcome.next (receiveResponse rowPcscFrameError r s) = _
    rw [receiveResponse_awaited _ h (List.ne_nil_of_length_pos (by omega)), hdone]
    rfl
  · show Host.Outcome.next (receiveResponse rowPcscNotags _ s) = _
    rw [receiveResponse_awaited _ h (by simp), hdone]
    rfl
  · show Host.Outcome.next (receiveResponse (rowPcscTag uid) _ s) = _
    rw [receiveResponse_awaited _ h (by simp), hdone]
    rfl
  · show Host.Outcome.next (receiveResponse (rowPcscProtoError _) _ s) = _
    rw [receiveResponse_awaited _ h (by simp), hdone, rowPcscProtoError, statusWord_append_eq_ofNat]
    rfl

end Sys2Proof.Machine

/-!
Proofs for 42_decoders.md R202 and 43_sequencer.md R237: what a whole frame leaves during the init
script.
-/
namespace Sys2Proof.Machine

/-! ### Family A -/

theorem decodeSelectedA_eq (sel : Selectors) (f : List Byte) :
    decodeSelectedA sel f =
      if (byteAt f 1).toNat < 2 then decodeAFrameError f
      else if csumOk f = false ∧ sel.strictA = true then decodeAStrictDrop f
      else if byteAt f 3 = sel.inv then decodeAInventory f
      else if byteAt f 3 = sel.buf then decodeABuffer f
      else decodeAAck f := by
  have hdrop : (!csumOk f && sel.strictA) = true ↔ csumOk f = false ∧ sel.strictA = true := by simp
  simp only [decodeSelectedA, selectA, hdrop]
  split_ifs <;> rfl

theorem decodeABuffer_hdr (f : List Byte) : (decodeABuffer f).hdr = some (headerOfA f) := by
  rw [decodeABuffer_eq]
  split <;> rfl

/-- A family A frame shows its header when it passed its integrity checks (R202). -/
theorem decodeSelectedA_hdr (sel : Selectors) (f : List Byte) :
    (decodeSelectedA sel f).hdr =
      if 2 ≤ (byteAt f 1).toNat ∧ (csumOk f = true ∨ sel.strictA = false) then some (headerOfA f)
      else none := by
  rw [decodeSelectedA_eq]
  by_cases hshort : (byteAt f 1).toNat < 2
  · rw [if_pos hshort, if_neg (by omega)]
    rfl
  · rw [if_neg hshort]
    by_cases hdrop : csumOk f = false ∧ sel.strictA = true
    · rw [if_pos hdrop, if_neg (by simp [hdrop])]
      rfl
    · have hpass : csumOk f = true ∨ sel.strictA = false := by
        cases hc : csumOk f <;> simp_all
      have hlen : 2 ≤ (byteAt f 1).toNat := Nat.not_lt.1 hshort
      rw [if_neg hdrop, if_pos (c := _ ∧ _) ⟨hlen, hpass⟩]
      split
      · rfl
      · split
        · exact decodeABuffer_hdr f
        · rfl

theorem answersStepA_iff (s : State) (f : List Byte) :
    (decodeSelectedA (selectorsOf s) f).hdr = some (expectedHeader s) ↔ AnswersStepA s f := by
  have hheader : headerOfA f = expectedHeader s ↔
      byteAt f 2 = (scriptAt s s.sess.k).expAddr ∧ byteAt f 3 = (scriptAt s s.sess.k).expCmd :=
    Prod.mk_inj
  rw [decodeSelectedA_hdr]
  split
  case isTrue hpass =>
    obtain ⟨hlen, hcheck⟩ := hpass
    rw [Option.some_inj, hheader]
    exact ⟨fun h => ⟨hlen, hcheck, h⟩, fun h => h.2.2⟩
  case isFalse hfail =>
    exact ⟨fun h => by simp at h, fun h => absurd ⟨h.1, h.2.1⟩ hfail⟩

theorem log_outcomeInventoryA (f : List Byte) (l : Log) :
    (outcomeInventoryA f).log l =
      if f.length < 7 ∨ (f.length = 7 ∧ byteAt f 5 = 0x01#8) then l.plusFrameErr
      else if byteAt f 5 = 0x01#8 ∨ byteAt f 5 = 0x00#8 then l
      else l.plusProtoErr ((byteAt f 5).setWidth 16) := by
  rw [outcomeInventoryA_eq]
  split
  · rfl
  · by_cases hone : byteAt f 5 = 0x01#8
    · rw [if_pos hone, if_pos (.inl hone)]
      rfl
    · by_cases hzero : byteAt f 5 = 0x00#8
      · rw [if_neg hone, if_pos hzero, if_pos (.inr hzero)]
        rfl
      · rw [if_neg hone, if_neg hzero, if_neg (not_or.2 ⟨hone, hzero⟩)]
        rfl

theorem log_decodeSelectedA (s : State) (f : List Byte) :
    (decodeSelectedA (selectorsOf s) f).log s.log.counted = logAfterFrameA s f := by
  rw [decodeSelectedA_eq]
  show Decoded.log
    (if (byteAt f 1).toNat < 2 then decodeAFrameError f
      else if csumOk f = false ∧ s.regs.ctrl.strictA = true then decodeAStrictDrop f
      else if byteAt f 3 = s.regs.aInv then decodeAInventory f
      else if byteAt f 3 = s.regs.aBuf then decodeABuffer f else decodeAAck f) s.log.counted = _
  unfold logAfterFrameA
  split
  · rfl
  · split
    case isTrue hdrop =>
      rw [logAfterCheckA, hdrop.1]
      rfl
    case isFalse =>
      split
      · rw [decodeAInventory, log_checkedA, log_outcomeInventoryA]
        rfl
      · split
        · rw [decodeABuffer_eq]
          split
          · rw [log_checkedA]
            rfl
          · rw [log_checkedA, log_batchOutcome, bufferSlotsA_eq]
            simp only [decide_eq_true_eq]
        · rw [decodeAAck, log_checkedA]
          rfl

/-! ### Family B -/

theorem decodeSelectedB_eq (f : List Byte) :
    decodeSelectedB f =
      if crcOk f = false then decodeBCrcDrop f
      else if byteAt f 2 = 0x01#8 then decodeBInventory f
      else decodeBAck f := by
  have hdrop : (!crcOk f) = true ↔ crcOk f = false := by simp
  have hsel : selectB f = if crcOk f = false then .crcDrop
      else if byteAt f 2 = 0x01#8 then .inventory else .ack := by
    simp only [selectB, hdrop]
    rfl
  rw [decodeSelectedB, hsel]
  split_ifs <;> rfl

theorem decodeBInventory_hdr (f : List Byte) : (decodeBInventory f).hdr = some (headerOfB f) := by
  rw [decodeBInventory_eq]
  split
  · rfl
  · split
    · rfl
    · split <;> rfl

/-- A family B frame shows its header when its CRC is right (R190, R202). -/
theorem decodeSelectedB_hdr (f : List Byte) :
    (decodeSelectedB f).hdr = if crcOk f = true then some (headerOfB f) else none := by
  rw [decodeSelectedB_eq]
  cases crcOk f with
  | false => rfl
  | true =>
    rw [if_neg (by simp), if_pos rfl]
    split
    · exact decodeBInventory_hdr f
    · rfl

theorem answersStepB_iff (s : State) (f : List Byte) :
    (decodeSelectedB f).hdr = some (expectedHeader s) ↔ AnswersStepB s f := by
  have hheader : headerOfB f = expectedHeader s ↔
      byteAt f 1 = (scriptAt s s.sess.k).expAddr ∧ byteAt f 2 = (scriptAt s s.sess.k).expCmd :=
    Prod.mk_inj
  rw [decodeSelectedB_hdr]
  split
  case isTrue hcrc =>
    rw [Option.some_inj, hheader]
    exact ⟨fun h => ⟨hcrc, h⟩, fun h => h.2⟩
  case isFalse hcrc =>
    exact ⟨fun h => by simp at h, fun h => absurd h.1 hcrc⟩

/-- The walk runs out of bytes when the records do not lie whole in them (R192). -/
theorem walkRecords_snd (n : Nat) (bs : List Byte) :
    (walkRecords n bs).2 = !tagRecordsFit n bs := by
  induction n generalizing bs with
  | zero => rfl
  | succ n ih =>
    cases bs with
    | nil => rfl
    | cons l bs =>
      rw [walkRecords, tagRecordsFit]
      by_cases hle : l.toNat ≤ bs.length
      · rw [if_pos hle, ih]
        simp [hle]
      · rw [if_neg hle]
        simp [hle]

/-- A list of at least 7 bytes is its first five, what lies between, and its last two. -/
theorem exists_eq_head_region_crc {f : List Byte} (h : 7 ≤ f.length) :
    ∃ lo hi, f = f.take 5 ++ (f.drop 5).take (f.length - 7) ++ [lo, hi] := by
  have htail : (f.drop 5).drop (f.length - 7) = f.drop (f.length - 2) := by
    rw [List.drop_drop]
    congr 1
    omega
  have htwo : (f.drop (f.length - 2)).length = 2 := by
    rw [List.length_drop]
    omega
  obtain ⟨lo, hi, hlast⟩ := List.length_eq_two.1 htwo
  refine ⟨lo, hi, ?_⟩
  rw [← hlast, ← htail, List.append_assoc, List.take_append_drop, List.take_append_drop]

theorem tagRecordsB_snd {f : List Byte} (h : 7 ≤ f.length) :
    (tagRecordsB f).2 = !tagRecordsFit (byteAt f 4).toNat ((f.drop 5).take (f.length - 7)) := by
  obtain ⟨lo, hi, hf⟩ := exists_eq_head_region_crc h
  have hwalk := tagRecordsB_eq (f.take 5) ((f.drop 5).take (f.length - 7)) lo hi
    (by rw [List.length_take]; omega)
  rw [← hf] at hwalk
  rw [hwalk, walkRecords_snd]

theorem log_decodeSelectedB (s : State) (f : List Byte) :
    (decodeSelectedB f).log s.log.counted = logAfterFrameB s f := by
  rw [decodeSelectedB_eq]
  unfold logAfterFrameB
  split
  · rfl
  · by_cases hinv : byteAt f 2 = 0x01#8
    · rw [if_pos hinv, if_neg (by simp [hinv]), decodeBInventory_eq]
      split
      · rfl
      case isFalse hlong =>
        split
        · rfl
        · split
          · rfl
          case isFalse hst =>
            have hst' : byteAt f 3 = 0x01#8 := not_not.1 hst
            have hlen : 7 ≤ f.length := by
              simp only [hst', true_and] at hlong
              omega
            simp only [Decoded.log, log_batchOutcome, tagRecordsB_snd hlen]
            cases tagRecordsFit (byteAt f 4).toNat ((f.drop 5).take (f.length - 7)) <;> rfl
    · rw [if_neg hinv, if_pos hinv]
      rfl

/-- Settles O49. -/
theorem initResponsesAreMatchedNotPublished : Obligations.InitResponsesAreMatchedNotPublished := by
  intro s f i hseq hp
  refine ⟨fun hf hi => ?_, fun hf hi => ?_⟩
  · rw [(of_decode_frameA hi).2, exec_instrOfRowA, receiveFrame_script _ f hseq hf hp,
      log_decodeSelectedA]
    simp only [answersStepA_iff]
  · rw [(of_decode_frameB hi).2, exec_instrOfRowB, receiveFrame_script _ f hseq hf hp,
      log_decodeSelectedB]
    simp only [answersStepB_iff]

end Sys2Proof.Machine

/-!
What an operation can do, said once: the groups that the rules about every step (20_memory.md R72, R73,
R78; 43_sequencer.md R220, R222; the invariant) go through.
-/
namespace Sys2Proof.Machine

/-- The operation is the command of this opcode: its CMD row, or a write of CMD with it (10_state.md
R26, 30_encoding.md R92). -/
def IsCommand (op : BitVec 4) (i : Instr) : Prop :=
  i = decodeOp op ∨ ∃ v : Word, i = .wrCmd v ∧ v.toNat % 16 = op.toNat

/-- The operation is a write of a register that keeps a setting of the host. -/
def WritesSetting (i : Instr) : Prop :=
  ∃ v : Word, i ∈ [.wrCtrl v, .wrIrqEn v, .wrChannel v, .wrBaudCount v, .wrBaudOverride v,
      .wrSeqTimeout v, .wrACmdSel v, .wrInitCount v] ∨
    (∃ n : BitVec 3, i = .wrBaudCand n v) ∨ ∃ k w : BitVec 3, i = .wrInitScript k w v

/-- The operation is one of a host engine (41_checksum_crc.md R163 to R165, R172 to R174). -/
def UsesEngine (i : Instr) : Prop :=
  IsCommand 4#4 i ∨ IsCommand 5#4 i ∨
    ∃ v : Word, i ∈ [.wrCrcValue v, .wrCrcData v, .wrXorValue v, .wrXorData v]

/-- What the operation leaves of s, by the part of the model that it runs. -/
inductive Effect (i : Instr) (s : State) : State → Prop
  | nothing : Effect i s s
  | bus (e : Bool) (w : Word) :
    Effect i s { s with ports := { s.ports with busErr := e, busRdata := some w } }
  | log (l : Log) : Effect i s { s with log := l }
  | regs (r : HostRegs) (hi : WritesSetting i) (hok : RegsOk s.regs → RegsOk r)
    (hlock : IsLocked s → r.initCount = s.regs.initCount) : Effect i s { s with regs := r }
  | eng (e : Engines) (hi : UsesEngine i) : Effect i s { s with eng := e }
  | hostFifo (q : List Byte) (hq : s.tx.htx.length ≤ 64 → q.length ≤ 64) :
    Effect i s { s with tx := { s.tx with htx := q } }
  | evtPop (hi : IsCommand 6#4 i) : Effect i s (cmdEvtPop s)
  | flushRx : Effect i s (cmdFlushRx s)
  | connect (hi : IsCommand 1#4 i) : Effect i s (cmdConnect s)
  | disconnect (hi : IsCommand 2#4 i) : Effect i s (cmdDisconnect s)
  | rxByte (b : Byte) (last : Bool) (hi : i = .rxByte b last) : Effect i s (rxByte b last s)
  | txBeat (hi : i = .txBeat) : Effect i s (onTxBeat s)
  | openRsp (ok : Bool) (err : BitVec 2) (hi : i = .openRsp ok err) :
    Effect i s (onOpenRsp ok err s)
  | tick (hi : i = .tick) : Effect i s (onTick s)
  | getUid : Effect i s (issueGetUid s)
  | xferErr : Effect i s (onXferErr s)
  | reset (hi : i = .reset) :
    Effect i s { State.reset with inputs := s.inputs, drawn := s.drawn }
  | frameA (f : List Byte) (d : Decoded)
    (hi : i ∈ [.aFrameError f, .aStrictDrop f, .aInventory f, .aBuffer f, .aAck f]) :
    Effect i s (receiveFrame .a (fun _ => deliver .a d) f s)
  | frameB (f : List Byte) (d : Decoded) (hi : i ∈ [.bCrcDrop f, .bInventory f, .bAck f]) :
    Effect i s (receiveFrame .b (fun _ => deliver .b d) f s)
  | response (f r : List Byte) (o : FrameOutcome)
    (hi : i ∈ [.pcscFrameError f, .pcscNotags, .pcscTag f, .pcscProtoError f]) :
    Effect i s (receiveResponse (deliverPcsc o) r s)

/-! ### Register writes -/

theorem legalBaudCount_le (v : Word) : legalBaudCount v ≤ 8#4 := by
  rw [BitVec.le_def, toNat_legalBaudCount]
  exact Nat.min_le_right _ _

theorem legalInitCount_le (v : Word) : legalInitCount v ≤ 8#4 := by
  rw [BitVec.le_def, toNat_legalInitCount]
  exact Nat.min_le_right _ _

theorem legalNbytes_le (v : Word) : legalNbytes v ≤ 24#5 := by
  rw [BitVec.le_def, toNat_legalNbytes]
  exact Nat.min_le_right _ _

theorem setWord_nbytes_le {e : ScriptEntry} (w : BitVec 3) (v : Word) (h : e.nbytes ≤ 24#5) :
    (e.setWord w v).nbytes ≤ 24#5 := by
  unfold ScriptEntry.setWord
  split_ifs
  · exact legalNbytes_le v
  · exact h
  · exact h

theorem regsOk_setWord {r : HostRegs} (k w : BitVec 3) (v : Word) (h : RegsOk r) :
    RegsOk { r with script := r.script.set k.toNat ((r.script[k.toNat]'k.isLt).setWord w v) k.isLt } := by
  obtain ⟨hbaud, hinit, hscript⟩ := h
  refine ⟨hbaud, hinit, fun e he => ?_⟩
  rw [Vector.toList_set] at he
  rcases List.mem_or_eq_of_mem_set he with hold | rfl
  · exact hscript e hold
  · exact setWord_nbytes_le w v (hscript _ (by simp))

/-- A write of a LOCK register leaves the state, or is a write of the host's settings outside the locked
states (10_state.md R64). -/
theorem effect_unlessLocked {i : Instr} {s : State} {f : State → State} (r : HostRegs)
    (hf : f s = { s with regs := r }) (hi : WritesSetting i) (hok : RegsOk s.regs → RegsOk r) :
    Effect i s (unlessLocked f s) := by
  by_cases hl : IsLocked s
  · rw [unlessLocked_of_locked f hl]
    exact .nothing
  · rw [unlessLocked_of_not_locked f hl, hf]
    exact .regs r hi hok fun h => absurd h hl

theorem effect_pushHostByte (i : Instr) (b : Byte) (s : State) : Effect i s (pushHostByte b s) := by
  unfold pushHostByte
  split
  · exact .log _
  · split
    · exact .log _
    case isFalse hroom =>
      refine .hostFifo _ fun hle => ?_
      have : s.tx.htx.length ≠ 64 := hroom
      simp only [List.length_append, List.length_singleton]
      omega

/-! ### Commands -/

theorem effect_runCommand {op : BitVec 4} {i : Instr} (hi : IsCommand op i) (s : State) :
    Effect i s (runCommand op s) := by
  obtain ⟨n⟩ := op
  match n, hi with
  | 0, _ => exact .nothing
  | 1, hi => exact .connect hi
  | 2, hi => exact .disconnect hi
  | 3, _ => exact .flushRx
  | 4, hi => exact .eng _ (.inl hi)
  | 5, hi => exact .eng _ (.inr (.inl hi))
  | 6, hi => exact .evtPop hi
  | 7, _ => exact .log _
  | 8, _ => exact .hostFifo [] fun _ => Nat.zero_le _
  | 9, _ | 10, _ | 11, _ | 12, _ | 13, _ | 14, _ | 15, _ => exact .log _
  | ⟨_ + 16, h⟩, _ => exact absurd h (by omega)

theorem exists_effect_decodeOp (op : BitVec 4) (s : State) :
    ∃ t, exec (decodeOp op) s = .next t ∧ Effect (decodeOp op) s t :=
  ⟨_, exec_decodeOp op s, effect_runCommand (.inl rfl) s⟩

theorem exists_effect_wrCmd (v : Word) (s : State) :
    ∃ t, exec (.wrCmd v) s = .next t ∧ Effect (.wrCmd v) s t := by
  have hop : v.toNat % 16 = (v.extractLsb' 0 4).toNat := by simp
  exact ⟨_, exec_wrCmd v s, effect_runCommand (.inr ⟨v, rfl, hop⟩) s⟩

/-! ### Every operation -/

theorem exists_effect (i : Instr) (s : State) : ∃ t, exec i s = .next t ∧ Effect i s t := by
  cases i with
  | nop => exact exists_effect_decodeOp 0#4 s
  | connect => exact exists_effect_decodeOp 1#4 s
  | disconnect => exact exists_effect_decodeOp 2#4 s
  | flushRx => exact exists_effect_decodeOp 3#4 s
  | crcInit => exact exists_effect_decodeOp 4#4 s
  | xorInit => exact exists_effect_decodeOp 5#4 s
  | evtPop => exact exists_effect_decodeOp 6#4 s
  | clrCounters => exact exists_effect_decodeOp 7#4 s
  | txFlush => exact exists_effect_decodeOp 8#4 s
  | reserved9 => exact exists_effect_decodeOp 9#4 s
  | reservedA => exact exists_effect_decodeOp 10#4 s
  | reservedB => exact exists_effect_decodeOp 11#4 s
  | reservedC => exact exists_effect_decodeOp 12#4 s
  | reservedD => exact exists_effect_decodeOp 13#4 s
  | reservedE => exact exists_effect_decodeOp 14#4 s
  | reservedF => exact exists_effect_decodeOp 15#4 s
  | wrCmd v => exact exists_effect_wrCmd v s
  | rdId | rdCtrl | rdStatus | rdIrqStatus | rdIrqEn | rdChannel | rdBaudCount | rdBaudOverride
  | rdChosenBaud | rdLastErr | rdSeqTimeout | rdACmdSel | rdInitCount | rdCrcValue | rdXorValue
  | rdTxLevel | rdCntFrames | rdCntCsumErr | rdCntFrameErr | rdCntProtoErr | rdCntEvtOvf
  | rdCntPartial | rdCntDiscard | rdLastProtoCode | rdEvtLevel | rdEvtHead | rdEvtAux | rdBaudCand
  | rdInitScript | rdEvtData | rdWoRegister | busError => exact ⟨_, rfl, .bus _ _⟩
  | unlistedOffset we =>
    cases we with
    | true => exact ⟨_, rfl, .nothing⟩
    | false => exact ⟨_, rfl, .bus _ _⟩
  | wrRoRegister | cardRemoved => exact ⟨_, rfl, .nothing⟩
  | wrIrqStatus => exact ⟨_, rfl, .log _⟩
  | wrCtrl v | wrIrqEn v | wrChannel v | wrBaudOverride v | wrSeqTimeout v | wrACmdSel v =>
    exact ⟨_, rfl, .regs _ ⟨v, .inl (by simp)⟩ (fun h => h) fun _ => rfl⟩
  | wrBaudCount v =>
    exact ⟨_, rfl, .regs _ ⟨v, .inl (by simp)⟩ (fun h => ⟨legalBaudCount_le v, h.2⟩) fun _ => rfl⟩
  | wrBaudCand n v =>
    exact ⟨_, rfl, .regs _ ⟨v, .inr (.inl ⟨n, rfl⟩)⟩ (fun h => h) fun _ => rfl⟩
  | wrInitCount v =>
    exact ⟨_, exec_wrInitCount v s, effect_unlessLocked _ rfl ⟨v, .inl (by simp)⟩
      fun h => ⟨h.1, legalInitCount_le v, h.2.2⟩⟩
  | wrInitScript k w v =>
    exact ⟨_, exec_wrInitScript v s k w, effect_unlessLocked _ rfl ⟨v, .inr (.inr ⟨k, w, rfl⟩)⟩
      (regsOk_setWord k w v)⟩
  | wrCrcValue v | wrCrcData v | wrXorValue v | wrXorData v =>
    exact ⟨_, rfl, .eng _ (.inr (.inr ⟨v, by simp⟩))⟩
  | wrTxData v => exact ⟨_, rfl, effect_pushHostByte _ _ s⟩
  | rxByte b last => exact ⟨_, rfl, .rxByte b last rfl⟩
  | txBeat => exact ⟨_, rfl, .txBeat rfl⟩
  | openRsp ok err => exact ⟨_, rfl, .openRsp ok err rfl⟩
  | tick => exact ⟨_, rfl, .tick rfl⟩
  | cardPresent | pcscGetUid => exact ⟨_, rfl, .getUid⟩
  | xferErr => exact ⟨_, rfl, .xferErr⟩
  | reset => exact ⟨_, rfl, .reset rfl⟩
  | aFrameError f => exact ⟨_, rfl, .frameA f (decodeAFrameError f) (by simp)⟩
  | aStrictDrop f => exact ⟨_, rfl, .frameA f (decodeAStrictDrop f) (by simp)⟩
  | aInventory f => exact ⟨_, rfl, .frameA f (decodeAInventory f) (by simp)⟩
  | aBuffer f => exact ⟨_, rfl, .frameA f (decodeABuffer f) (by simp)⟩
  | aAck f => exact ⟨_, rfl, .frameA f (decodeAAck f) (by simp)⟩
  | bCrcDrop f => exact ⟨_, rfl, .frameB f (decodeBCrcDrop f) (by simp)⟩
  | bInventory f => exact ⟨_, rfl, .frameB f (decodeBInventory f) (by simp)⟩
  | bAck f => exact ⟨_, rfl, .frameB f (decodeBAck f) (by simp)⟩
  | pcscFrameError r => exact ⟨_, rfl, .response r _ _ (by simp)⟩
  | pcscNotags => exact ⟨_, rfl, .response [] _ _ (by simp)⟩
  | pcscTag uid => exact ⟨_, rfl, .response uid _ _ (by simp)⟩
  | pcscProtoError r => exact ⟨_, rfl, .response r _ _ (by simp)⟩

theorem exec_effect {i : Instr} {s t : State} (h : exec i s = .next t) : Effect i s t := by
  obtain ⟨t', ht, heffect⟩ := exists_effect i s
  obtain rfl := Host.Outcome.next.inj (ht.symm.trans h)
  exact heffect

end Sys2Proof.Machine

/-!
What the init script leaves: where it takes the sequencer (43_sequencer.md R228, R232, R237, R238), and
what of the state it never touches.
-/
namespace Sys2Proof.Machine

/-! ### Where a step leads -/

theorem seqAfterStart_mem (s : State) (n : Nat) (k : BitVec 4) :
    seqAfterStart s n k ∈ [SeqState.initTx, .initWait, .initDelay, .connected] := by
  induction n generalizing k with
  | zero => simp [seqAfterStart]
  | succ n ih =>
    rw [seqAfterStart]
    split_ifs
    · simp
    · simp
    · simp
    · simp
    · exact ih (k + 1)

theorem scriptAt_congr {s t : State} (hr : t.regs = s.regs) (k : BitVec 4) :
    scriptAt t k = scriptAt s k := by
  rw [scriptAt, scriptAt, hr]

theorem seqAfterStart_congr {s t : State} (hr : t.regs = s.regs)
    (hw : t.sess.waitResp = s.sess.waitResp) (n : Nat) (k : BitVec 4) :
    seqAfterStart t n k = seqAfterStart s n k := by
  induction n generalizing k with
  | zero => rfl
  | succ n ih => simp only [seqAfterStart, scriptAt_congr hr, hr, hw, ih]

theorem seqAfterStep_mem (s : State) :
    seqAfterStep s ∈ [SeqState.initTx, .initWait, .initDelay, .connected] := by
  rw [seqAfterStep]
  split
  · simp
  · exact seqAfterStart_mem s _ _

theorem seqAfterResponse_mem (s : State) :
    seqAfterResponse s ∈ [SeqState.initTx, .initWait, .initDelay, .connected] := by
  rw [seqAfterResponse]
  split
  · simp
  · exact seqAfterStep_mem s

/-- Where a step leads depends on the registers, the step index and the session's choice to wait. -/
theorem seqAfterStep_congr {s t : State} (hr : t.regs = s.regs)
    (hw : t.sess.waitResp = s.sess.waitResp) (hk : t.sess.k = s.sess.k) :
    seqAfterStep t = seqAfterStep s := by
  simp only [seqAfterStep, seqAfterStart_congr hr hw, hr, hk]

theorem seqAfterResponse_congr {s t : State} (hr : t.regs = s.regs)
    (hw : t.sess.waitResp = s.sess.waitResp) (hk : t.sess.k = s.sess.k) :
    seqAfterResponse t = seqAfterResponse s := by
  simp only [seqAfterResponse, seqAfterStep_congr hr hw hk, scriptAt_congr hr, hk]

/-- Starting a step leads where the rules say, with a count of as many steps as are left. -/
theorem startStep_seq_of_turnsLeft_le (n : Nat) {s : State} (hn : turnsLeft s ≤ n) :
    (startStep s).sess.seq = seqAfterStart s n s.sess.k := by
  induction n generalizing s with
  | zero => exact absurd hn (Nat.not_succ_le_zero _)
  | succ n ih =>
    have hadvance : (advance (queueStep s)).sess.seq =
        if s.sess.k + 1 = s.regs.initCount then .connected
        else seqAfterStart s n (s.sess.k + 1) := by
      have hk : (queueStep s).sess.k + 1 = (queueStep s).regs.initCount ↔
          s.sess.k + 1 = s.regs.initCount := Iff.rfl
      rw [advance_eq]
      simp only [hk]
      split
      · rfl
      case isFalse hne =>
        have hnext : turnsLeft (toNextStep (queueStep s)) + 1 = turnsLeft s := turnsLeft_next hne
        rw [ih (s := toNextStep (queueStep s)) (by omega)]
        exact seqAfterStart_congr (s := s) (t := toNextStep (queueStep s)) rfl rfl n _
    have hdelay : (enterDelay (queueStep s)).sess.seq =
        if (scriptAt s s.sess.k).delay ≠ 0#16 then .initDelay
        else (advance (queueStep s)).sess.seq := by
      rw [enterDelay_eq, ite_not]
      exact apply_ite (fun t : State => t.sess.seq) _ _ _
    rw [startStep_eq, seqAfterStart, ite_not, ← hadvance, ← hdelay, finishTx_eq]
    split
    · exact apply_ite (fun t : State => t.sess.seq) _ _ _
    · rfl

theorem startStep_seq (s : State) : (startStep s).sess.seq = seqAfterStart s 16 s.sess.k :=
  startStep_seq_of_turnsLeft_le 16 (turnsLeft_le s)

theorem advance_seq (s : State) : (advance s).sess.seq = seqAfterStep s := by
  rw [advance_eq, seqAfterStep]
  split
  · rfl
  · rw [startStep_seq]
    exact seqAfterStart_congr (s := s) (t := toNextStep s) rfl rfl 16 _

theorem enterDelay_seq (s : State) : (enterDelay s).sess.seq = seqAfterResponse s := by
  rw [enterDelay_eq, seqAfterResponse, ite_not]
  split
  · exact advance_seq s
  · rfl

theorem finishTx_seq (s : State) :
    (finishTx s).sess.seq = if s.sess.waitResp then .initWait else seqAfterResponse s := by
  rw [finishTx_eq]
  split
  · rfl
  · exact enterDelay_seq s

theorem stepResponseMatched_seq (s : State) :
    (stepResponseMatched s).sess.seq = seqAfterResponse s := by
  rw [stepResponseMatched, enterDelay_seq]
  exact seqAfterResponse_congr rfl rfl rfl

/-! ### What the script leaves unchanged -/

/-- The init script leaves the host's registers, the engines, the event FIFO and the ports. -/
structure ScriptFrame (s t : State) : Prop where
  regs : t.regs = s.regs
  eng : t.eng = s.eng
  evt : t.evt = s.evt
  ports : t.ports = s.ports

theorem ScriptFrame.trans {s t u : State} (h : ScriptFrame s t) (h' : ScriptFrame t u) :
    ScriptFrame s u :=
  ⟨h'.regs.trans h.regs, h'.eng.trans h.eng, h'.evt.trans h.evt, h'.ports.trans h.ports⟩

theorem scriptFrame_enterConnected (s : State) : ScriptFrame s (enterConnected s) :=
  ⟨rfl, rfl, rfl, rfl⟩

section
variable {adv : State → State} (hadv : ∀ s, ScriptFrame s (adv s)) (s : State)
include hadv

theorem scriptFrame_enterDelayWith : ScriptFrame s (enterDelayWith adv s) := by
  rw [enterDelayWith]
  split
  · exact hadv s
  · exact ⟨rfl, rfl, rfl, rfl⟩

theorem scriptFrame_finishTxWith : ScriptFrame s (finishTxWith adv s) := by
  rw [finishTxWith]
  split
  · exact ⟨rfl, rfl, rfl, rfl⟩
  · exact scriptFrame_enterDelayWith hadv s

theorem scriptFrame_startStepWith : ScriptFrame s (startStepWith adv s) := by
  have hqueue : ScriptFrame s (queueStep s) := ⟨rfl, rfl, rfl, rfl⟩
  rw [startStepWith_eq]
  split
  · exact hqueue.trans (scriptFrame_finishTxWith hadv _)
  · exact hqueue

end

theorem scriptFrame_advanceFuel (n : Nat) (s : State) : ScriptFrame s (advanceFuel n s) := by
  induction n generalizing s with
  | zero => exact ⟨rfl, rfl, rfl, rfl⟩
  | succ n ih =>
    have hnext : ScriptFrame s (toNextStep s) := ⟨rfl, rfl, rfl, rfl⟩
    rw [advanceFuel_succ]
    split
    · exact hnext.trans (scriptFrame_enterConnected _)
    · exact hnext.trans (scriptFrame_startStepWith ih _)

theorem scriptFrame_advance (s : State) : ScriptFrame s (advance s) :=
  scriptFrame_advanceFuel 16 s

theorem scriptFrame_startStep (s : State) : ScriptFrame s (startStep s) :=
  scriptFrame_startStepWith scriptFrame_advance s

theorem scriptFrame_finishTx (s : State) : ScriptFrame s (finishTx s) :=
  scriptFrame_finishTxWith scriptFrame_advance s

theorem scriptFrame_stepResponseMatched (s : State) : ScriptFrame s (stepResponseMatched s) :=
  ScriptFrame.trans (t := { s with sess := { s.sess with timer := 0#17 } }) ⟨rfl, rfl, rfl, rfl⟩
    (scriptFrame_enterDelayWith scriptFrame_advance _)

end Sys2Proof.Machine

/-!
What receiving leaves: the host's registers, the engines and the ports as they were, the event FIFO
grown at its end only (20_memory.md R78), and the sequencer moved only by an awaited answer (43_sequencer.md
R220). Then O55 and O57, over the groups of `Effect`.
-/
namespace Sys2Proof.Machine

/-- Receiving moves the sequencer, if at all, from INIT_WAIT on (43_sequencer.md R237). -/
def AnswerMoves (q q' : SeqState) : Prop :=
  q' = q ∨ (q = .initWait ∧ q' ∈ [SeqState.initTx, .initDelay, .connected])

theorem AnswerMoves.trans {q q' q'' : SeqState} (h : AnswerMoves q q') (h' : AnswerMoves q' q'') :
    AnswerMoves q q'' := by
  rcases h' with rfl | ⟨rfl, hmem'⟩
  · exact h
  · rcases h with rfl | ⟨-, hmem⟩
    · exact .inr ⟨rfl, hmem'⟩
    · simp at hmem

/-- What receiving leaves of s. -/
structure ReceiveFrame (s t : State) : Prop where
  regs : t.regs = s.regs
  eng : t.eng = s.eng
  ports : t.ports = s.ports
  evt : s.evt <+: t.evt
  seq : AnswerMoves s.sess.seq t.sess.seq

namespace ReceiveFrame

theorem trans {s t u : State} (h : ReceiveFrame s t) (h' : ReceiveFrame t u) : ReceiveFrame s u where
  regs := h'.regs.trans h.regs
  eng := h'.eng.trans h.eng
  ports := h'.ports.trans h.ports
  evt := h.evt.trans h'.evt
  seq := h.seq.trans h'.seq

theorem refl (s : State) : ReceiveFrame s s :=
  ⟨rfl, rfl, rfl, List.prefix_rfl, .inl rfl⟩

/-- The receive buffers and the log are no part of it. -/
theorem of_rx_log (r : RxState) (l : Log) (s : State) : ReceiveFrame s { s with rx := r, log := l } :=
  ⟨rfl, rfl, rfl, List.prefix_rfl, .inl rfl⟩

end ReceiveFrame

theorem pushEvt_prefix (r : Record) (s : State) : s.evt <+: (pushEvt r s).evt := by
  rcases pushEvt_cases r s with ⟨-, h⟩ | ⟨-, h⟩ <;> rw [h]
  · exact List.prefix_append _ _
  · exact List.prefix_rfl

theorem publish_prefix (rs : List Record) (s : State) : s.evt <+: (publish rs s).evt := by
  induction rs generalizing s with
  | nil => exact List.prefix_rfl
  | cons r rs ih => exact (pushEvt_prefix r s).trans (ih (pushEvt r s))

theorem receiveFrame_publish (rs : List Record) (s : State) : ReceiveFrame s (publish rs s) := by
  have hevt := publish_prefix rs s
  obtain ⟨e, l, h⟩ := publish_frame rs s
  rw [h] at hevt ⊢
  exact ⟨rfl, rfl, rfl, hevt, .inl rfl⟩

/-! ### A decoded frame -/

/-- A decoded frame leaves the sequencer, or answers the step it waits for. -/
theorem deliver_seq (fam : Family) (d : Decoded) (s : State) :
    (deliver fam d s).sess.seq = s.sess.seq ∨
      (s.sess.seq = .initWait ∧ d.hdr = some (expectedHeader s) ∧
        (deliver fam d s).sess.seq = seqAfterResponse s) := by
  rw [deliver_eq]
  rcases route_cases d.hdr (d.records fam) { s with log := d.log s.log } with
    ⟨-, h⟩ | ⟨hw, hhdr, h⟩ | ⟨-, -, h⟩
  · obtain ⟨e, l, hp⟩ := publish_frame (d.records fam) { s with log := d.log s.log }
    rw [h, hp]
    exact .inl rfl
  · rw [h, stepResponseMatched_seq]
    exact .inr ⟨hw, hhdr, seqAfterResponse_congr rfl rfl rfl⟩
  · rw [h]
    exact .inl rfl

/-- Outside CONNECTED a decoded frame publishes nothing (42_decoders.md R202). -/
theorem deliver_evt (fam : Family) (d : Decoded) {s : State} (h : s.sess.seq ≠ .connected) :
    (deliver fam d s).evt = s.evt := by
  rw [deliver_not_connected fam d h]
  split
  · exact (scriptFrame_stepResponseMatched _).evt
  · rfl

theorem answerMoves_seqAfterResponse {s : State} (h : s.sess.seq = .initWait) :
    AnswerMoves s.sess.seq (seqAfterResponse s) := by
  have hmem := seqAfterResponse_mem s
  simp only [List.mem_cons, List.not_mem_nil, or_false] at hmem
  simp only [AnswerMoves, h, List.mem_cons, List.not_mem_nil, or_false]
  tauto

theorem receiveFrame_deliver (fam : Family) (d : Decoded) (s : State) :
    ReceiveFrame s (deliver fam d s) := by
  by_cases hc : s.sess.seq = .connected
  · rw [deliver_connected fam d hc]
    exact (ReceiveFrame.of_rx_log s.rx _ s).trans (receiveFrame_publish _ _)
  · have hseq : AnswerMoves s.sess.seq (deliver fam d s).sess.seq := by
      rcases deliver_seq fam d s with h | ⟨hw, -, h⟩
      · exact .inl h
      · rw [h]
        exact answerMoves_seqAfterResponse hw
    have hevt : s.evt <+: (deliver fam d s).evt := by rw [deliver_evt fam d hc]
    rw [deliver_not_connected fam d hc] at hseq hevt ⊢
    split at hseq
    case isTrue hmatch =>
      rw [if_pos hmatch] at hevt ⊢
      have hscript := scriptFrame_stepResponseMatched { s with log := d.log s.log }
      exact ⟨hscript.regs, hscript.eng, hscript.ports, hevt, hseq⟩
    case isFalse hno =>
      rw [if_neg hno]
      exact .of_rx_log s.rx _ s

theorem receiveFrame_deliverPcsc (o : FrameOutcome) (s : State) :
    ReceiveFrame s (deliverPcsc o s) := by
  rw [deliverPcsc, logOutcome_eq]
  exact (ReceiveFrame.of_rx_log s.rx _ s).trans (receiveFrame_publish _ _)

theorem receiveFrame_frameDonePcsc (r : List Byte) (ovf : Bool) (s : State) :
    ReceiveFrame s (frameDonePcsc r ovf s) := by
  unfold frameDonePcsc
  cases selectPcsc r ovf <;> exact receiveFrame_deliverPcsc _ s

/-! ### Bytes -/

theorem receiveFrame_assembleA (n : Nat) (s : State) : ReceiveFrame s (assembleA n s) := by
  induction n generalizing s with
  | zero => exact .refl s
  | succ n ih =>
    rw [assembleA_succ, assembleTurn]
    refine ReceiveFrame.trans (t := countDiscard (headerIndex s.rx.pend)
      (withPend (s.rx.pend.drop (headerIndex s.rx.pend)) s)) (.of_rx_log _ _ s) ?_
    split
    · exact .refl _
    · split
      · exact .refl _
      · rw [frameDoneA_eq_deliver]
        exact ((ReceiveFrame.of_rx_log _ _ _).trans (receiveFrame_deliver .a _ _)).trans (ih _)

theorem receiveFrame_asmBByte (b : Byte) (s : State) : ReceiveFrame s (asmBByte b s) := by
  by_cases hp : s.rx.pend = []
  · rw [asmBByte, if_pos hp]
    split <;> exact .of_rx_log _ _ s
  · rw [asmBByte_of_pend_ne hp]
    split
    · rw [frameDoneB_eq_deliver]
      exact (ReceiveFrame.of_rx_log _ _ s).trans (receiveFrame_deliver .b _ _)
    · exact .of_rx_log _ _ s

theorem receiveFrame_pcscByte (b : Byte) (last : Bool) (s : State) :
    ReceiveFrame s (pcscByte b last s) := by
  simp only [pcscByte]
  split
  · exact (ReceiveFrame.of_rx_log _ _ s).trans (receiveFrame_frameDonePcsc _ _ _)
  · exact .of_rx_log _ _ s

theorem receiveFrame_rxByte (b : Byte) (last : Bool) (s : State) :
    ReceiveFrame s (rxByte b last s) := by
  rcases rxByte_cases b last s with ⟨-, -, h⟩ | ⟨-, -, h⟩ | ⟨-, -, -, h⟩ | h <;> rw [h]
  · exact (ReceiveFrame.of_rx_log _ _ s).trans (receiveFrame_assembleA _ _)
  · exact receiveFrame_asmBByte b s
  · exact receiveFrame_pcscByte b last s
  · exact .of_rx_log _ _ s

theorem receiveFrame_rxBytes (bs : List Byte) (s : State) : ReceiveFrame s (rxBytes bs s) := by
  induction bs generalizing s with
  | nil => exact .refl s
  | cons b bs ih => exact (receiveFrame_rxByte b false s).trans (ih _)

theorem receiveFrame_rxBytesLast (r : List Byte) (s : State) : ReceiveFrame s (rxBytesLast r s) := by
  rcases List.eq_nil_or_concat r with rfl | ⟨r, b, rfl⟩
  · exact .refl s
  · rw [List.concat_eq_append, rxBytesLast_append]
    exact (receiveFrame_rxBytes r s).trans (receiveFrame_rxByte b true _)

/-! ### Whole frames -/

theorem receiveFrame_receiveFrame (fam : Family) (d : Decoded) (f : List Byte) (s : State) :
    ReceiveFrame s (receiveFrame fam (fun _ => deliver fam d) f s) := by
  unfold receiveFrame
  split
  · exact (ReceiveFrame.of_rx_log s.rx _ s).trans (receiveFrame_deliver fam d (countFrame s))
  · exact receiveFrame_rxBytes f s

theorem receiveFrame_receiveResponse (o : FrameOutcome) (r : List Byte) (s : State) :
    ReceiveFrame s (receiveResponse (deliverPcsc o) r s) := by
  unfold receiveResponse
  split
  · exact (ReceiveFrame.of_rx_log _ _ s).trans (receiveFrame_deliverPcsc o _)
  · exact receiveFrame_rxBytesLast r s

/-! ### The other operations -/

/-- The host's registers, the engines and the event FIFO: what the sequencer leaves. -/
structure HostFrame (s t : State) : Prop where
  regs : t.regs = s.regs
  eng : t.eng = s.eng
  evt : t.evt = s.evt

theorem HostFrame.trans {s t u : State} (h : HostFrame s t) (h' : HostFrame t u) : HostFrame s u :=
  ⟨h'.regs.trans h.regs, h'.eng.trans h.eng, h'.evt.trans h.evt⟩

theorem HostFrame.refl (s : State) : HostFrame s s := ⟨rfl, rfl, rfl⟩

theorem ScriptFrame.hostFrame {s t : State} (h : ScriptFrame s t) : HostFrame s t :=
  ⟨h.regs, h.eng, h.evt⟩

theorem hostFrame_failCand (cause : Cause) (step : BitVec 4) (s : State) :
    HostFrame s (failCand cause step s) := by
  rw [failCand_eq]
  exact ⟨rfl, rfl, rfl⟩

theorem hostFrame_cmdConnect (s : State) : HostFrame s (cmdConnect s) := by
  unfold cmdConnect
  split
  · exact ⟨rfl, rfl, rfl⟩
  · split
    · exact ⟨rfl, rfl, rfl⟩
    · simp only [connect, latchSession_teardown]
      split <;> exact ⟨rfl, rfl, rfl⟩

theorem hostFrame_cmdDisconnect (s : State) : HostFrame s (cmdDisconnect s) := by
  rw [cmdDisconnect]
  simp only [teardown_eq]
  split <;> exact ⟨rfl, rfl, rfl⟩

theorem hostFrame_onOpenRsp (ok : Bool) (err : BitVec 2) (s : State) :
    HostFrame s (onOpenRsp ok err s) := by
  cases h : s.sess.seq with
  | idle | initTx | initWait | initDelay | connected | failed =>
    simp only [onOpenRsp, h]
    exact .refl s
  | aborting =>
    simp only [onOpenRsp, h]
    cases ok <;> exact ⟨rfl, rfl, rfl⟩
  | opening =>
    cases ok with
    | false =>
      rw [onOpenRsp_failed err h]
      exact hostFrame_failCand _ _ s
    | true =>
      rw [onOpenRsp_succeeded err h]
      split
      · exact ⟨rfl, rfl, rfl⟩
      · refine HostFrame.trans ?_ (scriptFrame_startStep _).hostFrame
        exact ⟨rfl, rfl, rfl⟩

theorem hostFrame_onTick (s : State) : HostFrame s (onTick s) := by
  have hcount : HostFrame s (countTick s) := ⟨rfl, rfl, rfl⟩
  by_cases hno : (s.sess.seq ≠ .initWait ∧ s.sess.seq ≠ .initDelay) ∨ s.sess.timer = 0#17
  · rw [onTick_of_no_wait hno]
    exact .refl s
  · obtain ⟨hseq, ht⟩ := not_or.1 hno
    rw [onTick_of_wait (by tauto) ht]
    split
    · refine hcount.trans ?_
      unfold timerExpired
      split
      · refine HostFrame.trans ?_ (hostFrame_failCand _ _ _)
        exact ⟨rfl, rfl, rfl⟩
      · exact (scriptFrame_advance _).hostFrame
    · exact hcount

theorem hostFrame_onTxBeat (s : State) : HostFrame s (onTxBeat s) := by
  cases hq : s.tx.txq with
  | cons e rest =>
    have htake : HostFrame s (takeBeat e rest s) := ⟨rfl, rfl, rfl⟩
    rw [onTxBeat_cons hq]
    split
    · exact htake.trans (scriptFrame_finishTx _).hostFrame
    · exact htake
  | nil =>
    cases hh : s.tx.htx with
    | nil =>
      rw [onTxBeat_nothing hq hh]
      exact .refl s
    | cons b rest =>
      rw [onTxBeat_host hq hh]
      split <;> exact ⟨rfl, rfl, rfl⟩

theorem hostFrame_issueGetUid (s : State) : HostFrame s (issueGetUid s) := by
  rw [issueGetUid_eq]
  split <;> exact ⟨rfl, rfl, rfl⟩

theorem hostFrame_onXferErr (s : State) : HostFrame s (onXferErr s) := by
  rw [onXferErr]
  split <;> exact ⟨rfl, rfl, rfl⟩

/-! ### The host's registers and engines -/

/-- Only a write of a setting and RESET change the registers, and only an operation of an engine and
RESET change the engines. -/
theorem Effect.regs_or_eng {i : Instr} {s t : State} (h : Effect i s t) :
    (t.regs = s.regs ∨ i = .reset ∨ WritesSetting i) ∧
      (t.eng = s.eng ∨ i = .reset ∨ UsesEngine i) := by
  have of_receive (hf : ReceiveFrame s t) : (t.regs = s.regs ∨ i = .reset ∨ WritesSetting i) ∧
      (t.eng = s.eng ∨ i = .reset ∨ UsesEngine i) := ⟨.inl hf.regs, .inl hf.eng⟩
  have of_host (hf : HostFrame s t) : (t.regs = s.regs ∨ i = .reset ∨ WritesSetting i) ∧
      (t.eng = s.eng ∨ i = .reset ∨ UsesEngine i) := ⟨.inl hf.regs, .inl hf.eng⟩
  cases h with
  | nothing => exact of_host (.refl _)
  | bus | log | hostFifo | flushRx | evtPop => exact ⟨.inl rfl, .inl rfl⟩
  | regs r hi => exact ⟨.inr (.inr hi), .inl rfl⟩
  | eng e hi => exact ⟨.inl rfl, .inr (.inr hi)⟩
  | connect => exact of_host (hostFrame_cmdConnect s)
  | disconnect => exact of_host (hostFrame_cmdDisconnect s)
  | rxByte b last => exact of_receive (receiveFrame_rxByte b last s)
  | txBeat => exact of_host (hostFrame_onTxBeat s)
  | openRsp ok err => exact of_host (hostFrame_onOpenRsp ok err s)
  | tick => exact of_host (hostFrame_onTick s)
  | getUid => exact of_host (hostFrame_issueGetUid s)
  | xferErr => exact of_host (hostFrame_onXferErr s)
  | reset hi => exact ⟨.inr (.inl hi), .inr (.inl hi)⟩
  | frameA f d => exact of_receive (receiveFrame_receiveFrame .a d f s)
  | frameB f d => exact of_receive (receiveFrame_receiveFrame .b d f s)
  | response f r o => exact of_receive (receiveFrame_receiveResponse o r s)

/-- Settles O55. -/
theorem onlyTheHostChangesItsRegistersAndEngines :
    Obligations.OnlyTheHostChangesItsRegistersAndEngines := by
  intro i s t h
  obtain ⟨hregs, heng⟩ := (exec_effect h).regs_or_eng
  refine ⟨hregs, heng.imp_right ?_⟩
  rintro (rfl | (rfl | ⟨v, rfl, hv⟩) | (rfl | ⟨v, rfl, hv⟩) | ⟨v, hv⟩)
  · exact .inl (by simp)
  · exact .inl (by simp [decodeOp])
  · exact .inr ⟨v, .inl ⟨rfl, .inl hv⟩⟩
  · exact .inl (by simp [decodeOp])
  · exact .inr ⟨v, .inl ⟨rfl, .inr hv⟩⟩
  · exact .inr ⟨v, .inr hv⟩

/-! ### Published records -/

/-- The form of the pending buffer for family B: nothing, or a legal length byte and fewer bytes than the
frame needs (40_assembler.md R140). -/
theorem pendOk_b_iff {p : List Byte} :
    PendOk .b p ↔ p = [] ∨ (4#8 ≤ byteAt p 0 ∧ p.length < totalB p) := by
  simp [PendOk]

/-- Outside CONNECTED a byte on a buffer of R133's form touches the receive buffers and the log, or
completes a frame (40_assembler.md R133, R140). -/
theorem rxByte_of_not_connected (b : Byte) (last : Bool) {s : State}
    (hp : PendOk s.sess.fam s.rx.pend) (hc : s.sess.seq ≠ .connected) :
    (∃ r l, rxByte b last s = { s with rx := r, log := l }) ∨
      (s.sess.fam = .a ∧ isFrameA (s.rx.pend ++ [b]) = true ∧
        rxByte b last s =
          deliver .a (decodeSelectedA (selectorsOf s) (s.rx.pend ++ [b]))
            (countFrame (withPend [] s))) ∨
      (s.sess.fam = .b ∧ isFrameB (s.rx.pend ++ [b]) = true ∧
        rxByte b last s =
          deliver .b (decodeSelectedB (s.rx.pend ++ [b])) (countFrame (withPend [] s))) := by
  rcases rxByte_cases b last s with ⟨hl, hf, h⟩ | ⟨hl, hf, h⟩ | ⟨hc', -⟩ | h
  · rw [hf] at hp
    rw [h, asmAByte_eq_asmAByteSerial b ⟨hl, hf, hp⟩]
    rcases asmAByteSerial_cases b hp with ⟨-, -, heq⟩ | ⟨-, heq⟩ | ⟨hframe, heq⟩
    · exact .inl ⟨_, _, heq⟩
    · exact .inl ⟨_, _, heq⟩
    · rw [frameDoneA_eq_deliver] at heq
      exact .inr (.inl ⟨hf, hframe, heq⟩)
  · rw [hf] at hp
    rw [h]
    by_cases hnil : s.rx.pend = []
    · rcases Nat.lt_or_ge b.toNat 4 with hb | hb
      · exact .inl ⟨_, _, asmBByte_rejects hnil hb⟩
      · exact .inl ⟨_, _, asmBByte_starts hnil hb⟩
    · rw [asmBByte_of_pend_ne hnil]
      split
      case isTrue hlen =>
        obtain ⟨hmin, -⟩ := (pendOk_b_iff.1 hp).resolve_left hnil
        have hframe : isFrameB (s.rx.pend ++ [b]) = true :=
          isFrameB_iff.2 ⟨by rw [byteAt_zero_append _ hnil]; exact hmin, hlen⟩
        rw [frameDoneB_eq_deliver]
        exact .inr (.inr ⟨hf, hframe, rfl⟩)
      case isFalse => exact .inl ⟨_, _, rfl⟩
  · exact absurd hc' hc
  · exact .inl ⟨_, _, h⟩

theorem rxByte_evt (b : Byte) (last : Bool) {s : State} (hp : PendOk s.sess.fam s.rx.pend)
    (hc : s.sess.seq ≠ .connected) : (rxByte b last s).evt = s.evt := by
  rcases rxByte_of_not_connected b last hp hc with ⟨r, l, h⟩ | ⟨-, -, h⟩ | ⟨-, -, h⟩ <;> rw [h]
  · exact deliver_evt (s := countFrame (withPend [] s)) .a _ hc
  · exact deliver_evt (s := countFrame (withPend [] s)) .b _ hc

/-- Settles O57. -/
theorem publishedRecordsAreNeverChanged : Obligations.PublishedRecordsAreNeverChanged := by
  intro i s t h
  refine ⟨?_, fun b last hi hp hne => by_contra fun hc => ?_⟩
  · have of_prefix : s.evt <+: t.evt → ∃ new : List Record, t.evt = s.evt ++ new :=
      fun ⟨new, hnew⟩ => ⟨new, hnew.symm⟩
    have of_host (hf : HostFrame s t) : ∃ new : List Record, t.evt = s.evt ++ new :=
      of_prefix (by rw [hf.evt])
    cases exec_effect h with
    | nothing => exact .inl (of_host (.refl _))
    | bus | log | hostFifo | flushRx | regs | eng => exact .inl (of_prefix List.prefix_rfl)
    | evtPop hi => exact .inr (.inr ⟨hi, List.drop_one.symm⟩)
    | connect => exact .inl (of_host (hostFrame_cmdConnect s))
    | disconnect => exact .inl (of_host (hostFrame_cmdDisconnect s))
    | rxByte b last => exact .inl (of_prefix (receiveFrame_rxByte b last s).evt)
    | txBeat => exact .inl (of_host (hostFrame_onTxBeat s))
    | openRsp ok err => exact .inl (of_host (hostFrame_onOpenRsp ok err s))
    | tick => exact .inl (of_host (hostFrame_onTick s))
    | getUid => exact .inl (of_host (hostFrame_issueGetUid s))
    | xferErr => exact .inl (of_host (hostFrame_onXferErr s))
    | reset hi => exact .inr (.inl hi)
    | frameA f d => exact .inl (of_prefix (receiveFrame_receiveFrame .a d f s).evt)
    | frameB f d => exact .inl (of_prefix (receiveFrame_receiveFrame .b d f s).evt)
    | response f r o => exact .inl (of_prefix (receiveFrame_receiveResponse o r s).evt)
  · subst hi
    rw [exec_rxByte] at h
    obtain rfl := Host.Outcome.next.inj h
    exact hne (rxByte_evt b last hp hc)

end Sys2Proof.Machine

/-!
Proofs for 43_sequencer.md R220 to R222: what moves the sequencer, and when `close_req` and `open_req`
pulse.
-/
namespace Sys2Proof.Machine

/-! ### CONNECT -/

theorem familyOf_eq_some_iff {c : BitVec 2} {fam : Family} :
    familyOf c = some fam ↔ c = familyCode fam := by
  revert c
  cases fam <;> decide

/-- R226: CONNECT is refused, or names a family and finds no open in flight. -/
theorem cmdConnect_cases (s : State) :
    cmdConnect s = setIrq .badCmd s ∨
      ∃ fam, s.regs.ctrl.family = familyCode fam ∧ s.sess.seq ≠ .opening ∧
        s.sess.seq ≠ .aborting ∧ cmdConnect s = connect fam s := by
  by_cases hopen : s.sess.seq = .opening ∨ s.sess.seq = .aborting
  · exact .inl (cmdConnect_of_refused (.inr hopen))
  · obtain ⟨ho, ha⟩ := not_or.1 hopen
    cases hfam : familyOf s.regs.ctrl.family with
    | none => exact .inl (by simp only [cmdConnect, hfam])
    | some fam =>
      have hcode := familyOf_eq_some_iff.1 hfam
      exact .inr ⟨fam, hcode, ho, ha, cmdConnect_of_accepted hcode ho ha⟩

/-- The session CONNECT latches, before it opens or fails (R227, R229). -/
def latched (fam : Family) (s : State) : State :=
  latchSession fam (if s.sess.seq.live then teardown s else s)

theorem connect_eq (fam : Family) (s : State) :
    connect fam s =
      if (latched fam s).sess.ncand = 0#4 then
        setIrq .connFailed { latched fam s with
          sess := { (latched fam s).sess with seq := .failed, lastErr := ⟨.emptyList, 0#4, 0#4⟩ } }
      else
        emitOpen (latched fam s).sess.chan (candAt (latched fam s) 0#4)
          { latched fam s with sess := { (latched fam s).sess with seq := .opening } } :=
  rfl

theorem latched_ncand (fam : Family) (s : State) :
    (latched fam s).sess.ncand = (candidates fam s.regs).2 := by
  rw [latched, latchSession_teardown]

theorem connect_seq (fam : Family) (s : State) :
    (connect fam s).sess.seq = if (candidates fam s.regs).2 = 0#4 then .failed else .opening := by
  rw [connect_eq, latched_ncand]
  split <;> rfl

/-! ### A failed candidate -/

theorem failCand_seq (cause : Cause) (step : BitVec 4) (s : State) :
    (failCand cause step s).sess.seq =
      if s.sess.ci + 1 = s.sess.ncand then .failed else .opening := by
  rw [failCand_eq]

/-! ### A frame that answers a step -/

/-- The row of a family A operation is the one its bytes select, once the registers do. -/
theorem eq_instrOfRowA {i : Instr} {f : List Byte} {sel : Selectors}
    (hi : i ∈ [Instr.aFrameError f, .aStrictDrop f, .aInventory f, .aBuffer f, .aAck f])
    (hsel : i.selected sel = true) : i = instrOfRowA f (selectA sel f) := by
  simp only [List.mem_cons, List.not_mem_nil, or_false] at hi
  rcases hi with rfl | rfl | rfl | rfl | rfl <;>
    simp only [Instr.selected, beq_iff_eq] at hsel <;> rw [hsel] <;> rfl

theorem eq_instrOfRowB {i : Instr} {f : List Byte}
    (hi : i ∈ [Instr.bCrcDrop f, .bInventory f, .bAck f]) (hwf : i.wellFormed = true) :
    i = instrOfRowB f (selectB f) := by
  simp only [List.mem_cons, List.not_mem_nil, or_false] at hi
  rcases hi with rfl | rfl | rfl <;>
    simp only [Instr.wellFormed, Bool.and_eq_true, beq_iff_eq] at hwf <;> rw [hwf.2] <;> rfl

section
variable {s : State} (f : List Byte) (hw : s.sess.seq = .initWait)
include hw

/-- A decoded family A frame that moves the sequencer out of INIT_WAIT answers the step. -/
theorem deliverA_answers
    (hne : (deliver .a (decodeSelectedA (selectorsOf s) f) s).sess.seq ≠ .initWait) :
    (deliver .a (decodeSelectedA (selectorsOf s) f) s).sess.seq = seqAfterResponse s ∧
      AnswersStepA s f := by
  rcases deliver_seq .a (decodeSelectedA (selectorsOf s) f) s with hsame | ⟨-, hhdr, hseq⟩
  · exact absurd (hsame.trans hw) hne
  · exact ⟨hseq, (answersStepA_iff s f).1 hhdr⟩

theorem deliverB_answers (hne : (deliver .b (decodeSelectedB f) s).sess.seq ≠ .initWait) :
    (deliver .b (decodeSelectedB f) s).sess.seq = seqAfterResponse s ∧ AnswersStepB s f := by
  rcases deliver_seq .b (decodeSelectedB f) s with hsame | ⟨-, hhdr, hseq⟩
  · exact absurd (hsame.trans hw) hne
  · exact ⟨hseq, (answersStepB_iff s f).1 hhdr⟩

end

/-- Where the step goes does not depend on the receive buffers or the log. -/
theorem seqAfterResponse_rx_log (r : RxState) (l : Log) (s : State) :
    seqAfterResponse { s with rx := r, log := l } = seqAfterResponse s :=
  seqAfterResponse_congr rfl rfl rfl

/-- A byte that moves the sequencer out of INIT_WAIT completes a frame that answers the step. -/
theorem rxByte_answers (b : Byte) (last : Bool) {s : State} (hp : PendOk s.sess.fam s.rx.pend)
    (hw : s.sess.seq = .initWait) (hne : (rxByte b last s).sess.seq ≠ .initWait) :
    (rxByte b last s).sess.seq = seqAfterResponse s ∧
      ((s.sess.fam = .a ∧ isFrameA (s.rx.pend ++ [b]) = true ∧ AnswersStepA s (s.rx.pend ++ [b])) ∨
        (s.sess.fam = .b ∧ isFrameB (s.rx.pend ++ [b]) = true ∧
          AnswersStepB s (s.rx.pend ++ [b]))) := by
  have hc : s.sess.seq ≠ .connected := by simp [hw]
  have hafter : seqAfterResponse (countFrame (withPend [] s)) = seqAfterResponse s :=
    seqAfterResponse_rx_log _ _ s
  rcases rxByte_of_not_connected b last hp hc with ⟨r, l, h⟩ | ⟨hf, hframe, h⟩ | ⟨hf, hframe, h⟩
  · rw [h] at hne
    exact absurd hw hne
  · rw [h] at hne ⊢
    obtain ⟨hseq, hanswers⟩ :=
      deliverA_answers (s := countFrame (withPend [] s)) (s.rx.pend ++ [b]) hw hne
    exact ⟨hseq.trans hafter, .inl ⟨hf, hframe, hanswers⟩⟩
  · rw [h] at hne ⊢
    obtain ⟨hseq, hanswers⟩ :=
      deliverB_answers (s := countFrame (withPend [] s)) (s.rx.pend ++ [b]) hw hne
    exact ⟨hseq.trans hafter, .inr ⟨hf, hframe, hanswers⟩⟩

/-- A family A frame's operation at a boundary that moves the sequencer out of INIT_WAIT. -/
theorem exec_frameA_answers {i : Instr} {f : List Byte} {s t : State} (h : exec i s = .next t)
    (hi : i ∈ [Instr.aFrameError f, .aStrictDrop f, .aInventory f, .aBuffer f, .aAck f])
    (hf : s.sess.fam = .a) (hp : s.rx.pend = []) (hsel : i.selected (selectorsOf s) = true)
    (hw : s.sess.seq = .initWait) (hne : t.sess.seq ≠ .initWait) :
    t.sess.seq = seqAfterResponse s ∧ AnswersStepA s f := by
  rw [eq_instrOfRowA hi hsel, exec_instrOfRowA, receiveFrame_boundary _ f (by rw [hw]; rfl) hf hp] at h
  obtain rfl := Host.Outcome.next.inj h
  obtain ⟨hseq, hanswers⟩ := deliverA_answers (s := countFrame s) f hw hne
  exact ⟨hseq.trans (seqAfterResponse_rx_log _ _ s), hanswers⟩

theorem exec_frameB_answers {i : Instr} {f : List Byte} {s t : State} (h : exec i s = .next t)
    (hi : i ∈ [Instr.bCrcDrop f, .bInventory f, .bAck f]) (hf : s.sess.fam = .b)
    (hp : s.rx.pend = []) (hwf : i.wellFormed = true) (hw : s.sess.seq = .initWait)
    (hne : t.sess.seq ≠ .initWait) : t.sess.seq = seqAfterResponse s ∧ AnswersStepB s f := by
  rw [eq_instrOfRowB hi hwf, exec_instrOfRowB, receiveFrame_boundary _ f (by rw [hw]; rfl) hf hp] at h
  obtain rfl := Host.Outcome.next.inj h
  obtain ⟨hseq, hanswers⟩ := deliverB_answers (s := countFrame s) f hw hne
  exact ⟨hseq.trans (seqAfterResponse_rx_log _ _ s), hanswers⟩

theorem ne_initWait_of_mem {q : SeqState} (h : q ∈ [SeqState.initTx, .initDelay, .connected]) :
    q ≠ .initWait := by
  rintro rfl
  simp at h

/-! ### The rows of R220's table -/

/-- DISCONNECT's rows. -/
theorem cmdDisconnect_moves (s : State) :
    (cmdDisconnect s).sess.seq = s.sess.seq ∨
      (s.sess.seq ∉ [SeqState.idle, .aborting] ∧
        (cmdDisconnect s).sess.seq = if s.sess.seq = .opening then .aborting else .idle) := by
  cases h : s.sess.seq <;> simp [cmdDisconnect, h]

/-- The rows of an answer to an open. -/
theorem onOpenRsp_moves (ok : Bool) (err : BitVec 2) (s : State) :
    (onOpenRsp ok err s).sess.seq = s.sess.seq ∨
      (s.sess.seq = .aborting ∧ (onOpenRsp ok err s).sess.seq = .idle) ∨
      (s.sess.seq = .opening ∧ ok = false ∧ s.sess.ci + 1 = s.sess.ncand ∧
        (onOpenRsp ok err s).sess.seq = .failed) ∨
      (s.sess.seq = .opening ∧ ok = true ∧
        (onOpenRsp ok err s).sess.seq =
          if s.sess.fam = .pcsc ∨ s.regs.initCount = 0#4 then .connected
          else seqAfterStart s 16 0#4) := by
  cases h : s.sess.seq with
  | idle | initTx | initWait | initDelay | connected | failed =>
    exact .inl (by simp only [onOpenRsp, h])
  | aborting => exact .inr (.inl ⟨rfl, by simp only [onOpenRsp, h]⟩)
  | opening =>
    cases ok with
    | false =>
      rw [onOpenRsp_failed err h, failCand_seq]
      by_cases hlast : s.sess.ci + 1 = s.sess.ncand
      · exact .inr (.inr (.inl ⟨rfl, rfl, hlast, if_pos hlast⟩))
      · exact .inl (if_neg hlast)
    | true =>
      refine .inr (.inr (.inr ⟨rfl, rfl, ?_⟩))
      rw [onOpenRsp_succeeded err h]
      split
      · rfl
      · rw [startStep_seq]
        exact seqAfterStart_congr rfl rfl 16 _

/-- The rows of a byte taken. -/
theorem onTxBeat_moves (s : State) :
    (onTxBeat s).sess.seq = s.sess.seq ∨
      (s.sess.seq = .initTx ∧ s.tx.txq.length = 1 ∧
        (onTxBeat s).sess.seq =
          if s.sess.waitResp then .initWait else seqAfterResponse s) := by
  cases hq : s.tx.txq with
  | cons e rest =>
    rw [onTxBeat_cons hq]
    split
    case isTrue hlast =>
      obtain ⟨rfl, htx⟩ := hlast
      have hafter : seqAfterResponse (takeBeat e [] s) = seqAfterResponse s :=
        seqAfterResponse_congr rfl rfl rfl
      rw [finishTx_seq, hafter]
      exact .inr ⟨htx, rfl, rfl⟩
    case isFalse => exact .inl rfl
  | nil =>
    cases hh : s.tx.htx with
    | nil => exact .inl (by rw [onTxBeat_nothing hq hh])
    | cons b rest =>
      rw [onTxBeat_host hq hh]
      split <;> exact .inl rfl

/-- The rows of the wait's last tick. -/
theorem onTick_moves (s : State) :
    (onTick s).sess.seq = s.sess.seq ∨
      (s.sess.seq = .initWait ∧ s.sess.timer = 1#17 ∧
        (onTick s).sess.seq = if s.sess.ci + 1 = s.sess.ncand then .failed else .opening) ∨
      (s.sess.seq = .initDelay ∧ s.sess.timer = 1#17 ∧ (onTick s).sess.seq = seqAfterStep s) := by
  by_cases hno : (s.sess.seq ≠ .initWait ∧ s.sess.seq ≠ .initDelay) ∨ s.sess.timer = 0#17
  · exact .inl (by rw [onTick_of_no_wait hno])
  · obtain ⟨hwait, ht⟩ := not_or.1 hno
    have hseq : s.sess.seq = .initWait ∨ s.sess.seq = .initDelay := by tauto
    rw [onTick_of_wait hseq ht]
    split
    case isFalse => exact .inl rfl
    case isTrue hone =>
      rcases hseq with hw | hd
      · rw [timerExpired_initWait (s := countTick s) hw, failCand_seq]
        exact .inr (.inl ⟨hw, hone, rfl⟩)
      · rw [timerExpired_initDelay (s := countTick s) hd, advance_seq]
        exact .inr (.inr ⟨hd, hone, seqAfterStep_congr rfl rfl rfl⟩)

/-- Settles O56, over the groups of `Effect`. -/
theorem onlyTheTableMovesTheSequencer : Obligations.OnlyTheTableMovesTheSequencer := by
  intro i s t h
  cases exec_effect h with
  | nothing | bus | log | regs | eng | hostFifo | evtPop | flushRx => exact .inl rfl
  | getUid =>
    rw [issueGetUid_eq]
    split <;> exact .inl rfl
  | xferErr =>
    rw [onXferErr]
    split <;> exact .inl rfl
  | reset hi => exact .inr (.inl ⟨hi, rfl⟩)
  | connect hi =>
    rcases cmdConnect_cases s with hrefused | ⟨fam, hfam, ho, ha, hconnect⟩
    · exact .inl (by rw [hrefused]; rfl)
    · rw [hconnect, connect_seq]
      exact .inr (.inr (.inl ⟨hi, by simp [ho, ha], fam, hfam, rfl⟩))
  | disconnect hi =>
    rcases cmdDisconnect_moves s with hsame | hmoves
    · exact .inl hsame
    · exact .inr (.inr (.inr (.inl ⟨hi, hmoves⟩)))
  | openRsp ok err hi =>
    rcases onOpenRsp_moves ok err s with hsame | hmoves
    · exact .inl hsame
    · exact .inr (.inr (.inr (.inr (.inl ⟨ok, err, hi, hmoves⟩))))
  | txBeat hi =>
    rcases onTxBeat_moves s with hsame | hmoves
    · exact .inl hsame
    · exact .inr (.inr (.inr (.inr (.inr (.inl ⟨hi, hmoves⟩)))))
  | tick hi =>
    rcases onTick_moves s with hsame | hmoves | hmoves
    · exact .inl hsame
    · exact .inr (.inr (.inr (.inr (.inr (.inr (.inl ⟨hi, hmoves⟩))))))
    · exact .inr (.inr (.inr (.inr (.inr (.inr (.inr (.inl ⟨hi, hmoves⟩)))))))
  | rxByte b last hi =>
    rcases (receiveFrame_rxByte b last s).seq with hsame | ⟨hw, hmem⟩
    · exact .inl hsame
    · exact .inr (.inr (.inr (.inr (.inr (.inr (.inr (.inr ⟨hw, hmem, .inl ⟨b, last, hi,
        fun hp => rxByte_answers b last hp hw (ne_initWait_of_mem hmem)⟩⟩)))))))
  | frameA f d hi =>
    rcases (receiveFrame_receiveFrame .a d f s).seq with hsame | ⟨hw, hmem⟩
    · exact .inl hsame
    · exact .inr (.inr (.inr (.inr (.inr (.inr (.inr (.inr ⟨hw, hmem, .inr (.inl ⟨f, hi,
        fun hf hp _ hsel => exec_frameA_answers h hi hf hp hsel hw (ne_initWait_of_mem hmem)⟩)⟩)))))))
  | frameB f d hi =>
    rcases (receiveFrame_receiveFrame .b d f s).seq with hsame | ⟨hw, hmem⟩
    · exact .inl hsame
    · exact .inr (.inr (.inr (.inr (.inr (.inr (.inr (.inr ⟨hw, hmem, .inr (.inr (.inl ⟨f, hi,
        fun hf hp hwf => exec_frameB_answers h hi hf hp hwf hw (ne_initWait_of_mem hmem)⟩))⟩)))))))
  | response f r o hi =>
    rcases (receiveFrame_receiveResponse o r s).seq with hsame | ⟨hw, hmem⟩
    · exact .inl hsame
    · exact .inr (.inr (.inr (.inr (.inr (.inr (.inr (.inr ⟨hw, hmem,
        .inr (.inr (.inr ⟨f, hi⟩))⟩)))))))

end Sys2Proof.Machine

/-!
Proofs for 43_sequencer.md R222: a close request is for a handle held, and an open request is made with
no other open in flight.
-/
namespace Sys2Proof.Machine

/-- A step that pulses neither request. -/
def Silent (s : State) : Prop := s.ports.closeReq = false ∧ s.ports.openReq = none

theorem silent_of_ports {s t : State} (h : t.ports = s.ports) (hs : Silent s) : Silent t := by
  rw [Silent, h]
  exact hs

/-- The next candidate of a list that is not yet at its end. -/
theorem next_candidate {s : State} (hci : s.sess.ci < s.sess.ncand)
    (hlen : s.sess.ncand.toNat ≤ s.sess.cand.length) (hne : s.sess.ci + 1 ≠ s.sess.ncand) :
    s.sess.cand[(s.sess.ci + 1).toNat]? = some (candAt s (s.sess.ci + 1)) := by
  have hlt : (s.sess.ci + 1).toNat < s.sess.cand.length := by bv_omega
  rw [candAt, List.getD_eq_getElem?_getD, List.getElem?_eq_getElem hlt]
  rfl

/-- An open request is for the candidate the session is at. -/
def OpensItsCandidate (t : State) : Prop :=
  ∀ (chan : Byte) (baud : Word), t.ports.openReq = some (chan, baud) →
    t.sess.seq = .opening ∧ chan = t.sess.chan ∧ t.sess.cand[t.sess.ci.toNat]? = some baud

theorem Silent.opensItsCandidate {t : State} (h : Silent t) : OpensItsCandidate t := by
  intro chan baud hreq
  rw [h.2] at hreq
  cases hreq

theorem failCand_opensItsCandidate (cause : Cause) (step : BitVec 4) {s : State}
    (hopen : s.ports.openReq = none) (hci : s.sess.ci < s.sess.ncand)
    (hlen : s.sess.ncand.toNat ≤ s.sess.cand.length) : OpensItsCandidate (failCand cause step s) := by
  intro chan baud hreq
  rcases failCand_cases cause step s with ⟨-, -, hports⟩ | ⟨hne, hseq, hports⟩
  · rw [hports, hopen] at hreq
    cases hreq
  · rw [hports] at hreq
    obtain ⟨rfl, rfl⟩ := Prod.mk_inj.1 (Option.some.inj hreq)
    have hnext := next_candidate hci hlen hne
    rw [failCand_eq] at hseq ⊢
    exact ⟨hseq, rfl, hnext⟩

theorem candidates_pos (fam : Family) (r : HostRegs) : 0 < (candidates fam r).1.length := by
  rw [candidates_fst]
  split_ifs <;> simp

theorem connect_opensItsCandidate (fam : Family) {s : State} (hs : Silent s) :
    OpensItsCandidate (connect fam s) := by
  intro chan baud hreq
  have hquiet : (latched fam s).ports.openReq = none := by
    rw [latched, latchSession_teardown]
    exact hs.2
  rw [connect_eq] at hreq ⊢
  split at hreq
  case isTrue =>
    rw [setIrq_ports, hquiet] at hreq
    cases hreq
  case isFalse hn =>
    rw [if_neg hn]
    obtain ⟨rfl, rfl⟩ := Prod.mk_inj.1 (Option.some.inj hreq)
    refine ⟨rfl, rfl, ?_⟩
    show (latched fam s).sess.cand[(latched fam s).sess.ci.toNat]? = some (candAt (latched fam s) 0#4)
    rw [candAt, latched, latchSession_teardown]
    exact (List.getD_eq_getElem _ _ (candidates_pos fam s.regs)) ▸ List.getElem?_eq_getElem _

/-- CONNECT closes the handle of a live session, and holds none afterwards. -/
theorem connect_closeReq (fam : Family) {s : State} (hs : Silent s)
    (hclose : (connect fam s).ports.closeReq = true) :
    (connect fam s).sess.handleOpen = false ∧ s.sess.handleOpen = true := by
  have hpulse : (connect fam s).ports.closeReq = (latched fam s).ports.closeReq := by
    rw [connect_eq]
    split <;> rfl
  have hhandle : (connect fam s).sess.handleOpen = (latched fam s).sess.handleOpen := by
    rw [connect_eq]
    split <;> rfl
  rw [hpulse] at hclose
  rw [hhandle]
  rw [latched, latchSession_teardown] at hclose ⊢
  simp only [hs.1, Bool.false_or, Bool.and_eq_true] at hclose
  simp [hclose.1, hclose.2]

/-! ### Every operation -/

/-- R222 of one step: what its `close_req` and its `open_req` are for. -/
structure Paired (i : Instr) (s t : State) : Prop where
  close : t.ports.closeReq = true →
    t.sess.handleOpen = false ∧
      (s.sess.handleOpen = true ∨
        (s.sess.seq = .aborting ∧ ∃ err : BitVec 2, i = .openRsp true err))
  opens : OpensItsCandidate t
  alone : t.ports.openReq ≠ none →
    s.sess.seq ≠ .aborting ∧ (s.sess.seq = .opening → ∃ err : BitVec 2, i = .openRsp false err)

theorem Paired.of_silent {i : Instr} {s t : State} (h : Silent t) : Paired i s t where
  close hclose := by
    rw [h.1] at hclose
    cases hclose
  opens := h.opensItsCandidate
  alone hopen := absurd h.2 hopen

section
variable {i : Instr} {s : State} (hs : Silent s)
include hs

theorem paired_cmdConnect : Paired i s (cmdConnect s) := by
  rcases cmdConnect_cases s with hrefused | ⟨fam, -, ho, ha, hconnect⟩
  · rw [hrefused]
    exact .of_silent hs
  · rw [hconnect]
    exact ⟨fun hclose => (connect_closeReq fam hs hclose).imp_right .inl,
      connect_opensItsCandidate fam hs, fun _ => ⟨ha, fun h => absurd h ho⟩⟩

/-- DISCONNECT closes the handle held, if any, and opens nothing (R230, R231). -/
theorem paired_cmdDisconnect : Paired i s (cmdDisconnect s) := by
  obtain ⟨hclose, hopen⟩ := hs
  have hnone : (cmdDisconnect s).ports.openReq = none := by
    cases h : s.sess.seq <;> simp [cmdDisconnect, h, teardown_eq, hopen]
  refine ⟨fun hpulse => ?_, fun chan baud hreq => ?_, fun hreq => absurd hnone hreq⟩
  · cases h : s.sess.seq with
    | idle | aborting | failed => simp [cmdDisconnect, h, hclose] at hpulse
    | opening | initTx | initWait | initDelay | connected =>
      simp only [cmdDisconnect, h, teardown_eq, hclose, Bool.false_or, true_and] at hpulse ⊢
      exact .inl hpulse
  · rw [hnone] at hreq
    cases hreq

variable (hseq : SeqOk s)
include hseq

theorem paired_onOpenRsp (ok : Bool) (err : BitVec 2) :
    Paired (.openRsp ok err) s (onOpenRsp ok err s) := by
  obtain ⟨hhandle, -, -, -, hlen, -, -, hopening, -⟩ := hseq
  cases h : s.sess.seq with
  | idle | initTx | initWait | initDelay | connected | failed =>
    simp only [onOpenRsp, h]
    exact .of_silent hs
  | aborting =>
    have hnot : s.sess.handleOpen = false := by rw [hhandle, h]; rfl
    cases ok with
    | false =>
      simp only [onOpenRsp, h]
      exact .of_silent hs
    | true =>
      simp only [onOpenRsp, h]
      exact ⟨fun _ => ⟨hnot, .inr ⟨h, err, rfl⟩⟩, fun _ _ hreq => absurd (hs.2.symm.trans hreq) (by simp),
        fun hreq => absurd hs.2 hreq⟩
  | opening =>
    cases ok with
    | false =>
      obtain ⟨hci, -⟩ := hopening (.inl h)
      rw [onOpenRsp_failed err h]
      refine ⟨fun hpulse => ?_, failCand_opensItsCandidate _ _ hs.2 hci hlen,
        fun _ => ⟨by simp [h], fun _ => ⟨err, rfl⟩⟩⟩
      rw [failCand_eq] at hpulse
      exact absurd (hs.1.symm.trans hpulse) (by simp)
    | true =>
      rw [onOpenRsp_succeeded err h]
      split
      · exact .of_silent hs
      · exact .of_silent (silent_of_ports (scriptFrame_startStep _).ports hs)

theorem paired_onTick : Paired i s (onTick s) := by
  obtain ⟨hhandle, -, -, -, hlen, -, -, -, hscript, -⟩ := hseq
  by_cases hno : (s.sess.seq ≠ .initWait ∧ s.sess.seq ≠ .initDelay) ∨ s.sess.timer = 0#17
  · rw [onTick_of_no_wait hno]
    exact .of_silent hs
  · obtain ⟨hwait, ht⟩ := not_or.1 hno
    have hseq : s.sess.seq = .initWait ∨ s.sess.seq = .initDelay := by tauto
    rw [onTick_of_wait hseq ht]
    split
    case isFalse => exact .of_silent hs
    case isTrue =>
      rcases hseq with hw | hd
      · obtain ⟨hci, -⟩ := hscript (.inr (.inl hw))
        have hheld : s.sess.handleOpen = true := by rw [hhandle, hw]; rfl
        rw [timerExpired_initWait (s := countTick s) hw]
        refine ⟨fun _ => ⟨?_, .inl hheld⟩,
          failCand_opensItsCandidate (s := emitClose { countTick s with
            sess := { (countTick s).sess with handleOpen := false } }) _ _ hs.2 hci hlen,
          fun _ => ⟨by simp [hw], fun h => absurd (hw.symm.trans h) (by simp)⟩⟩
        rw [failCand_eq]
        rfl
      · rw [timerExpired_initDelay (s := countTick s) hd]
        exact .of_silent (silent_of_ports (scriptFrame_advance _).ports hs)

end

theorem silent_onTxBeat {s : State} (hs : Silent s) : Silent (onTxBeat s) := by
  cases hq : s.tx.txq with
  | cons e rest =>
    rw [onTxBeat_cons hq]
    split
    · exact silent_of_ports (scriptFrame_finishTx _).ports hs
    · exact hs
  | nil =>
    cases hh : s.tx.htx with
    | nil =>
      rw [onTxBeat_nothing hq hh]
      exact hs
    | cons b rest =>
      rw [onTxBeat_host hq hh]
      split <;> exact hs

theorem Effect.paired {i : Instr} {s t : State} (h : Effect i s t) (hs : Silent s) (hseq : SeqOk s) :
    Paired i s t := by
  cases h with
  | nothing | bus | log | regs | eng | hostFifo | evtPop | flushRx => exact .of_silent hs
  | getUid =>
    rw [issueGetUid_eq]
    split <;> exact .of_silent hs
  | xferErr =>
    rw [onXferErr]
    split <;> exact .of_silent hs
  | reset => exact .of_silent ⟨rfl, rfl⟩
  | connect => exact paired_cmdConnect hs
  | disconnect => exact paired_cmdDisconnect hs
  | openRsp ok err hi =>
    subst hi
    exact paired_onOpenRsp hs hseq ok err
  | txBeat => exact .of_silent (silent_onTxBeat hs)
  | tick => exact paired_onTick hs hseq
  | rxByte b last => exact .of_silent (silent_of_ports (receiveFrame_rxByte b last s).ports hs)
  | frameA f d => exact .of_silent (silent_of_ports (receiveFrame_receiveFrame .a d f s).ports hs)
  | frameB f d => exact .of_silent (silent_of_ports (receiveFrame_receiveFrame .b d f s).ports hs)
  | response f r o =>
    exact .of_silent (silent_of_ports (receiveFrame_receiveResponse o r s).ports hs)

/-- Settles O58. -/
theorem closesAndOpensArePaired : Obligations.ClosesAndOpensArePaired := by
  intro i s t ⟨_, hseq, _⟩ h
  obtain ⟨hclose, hopens, halone⟩ := (exec_effect h).paired ⟨rfl, rfl⟩ hseq
  refine ⟨hclose, fun chan baud hreq => ?_⟩
  obtain ⟨hopening, hchan, hbaud⟩ := hopens chan baud hreq
  exact ⟨hopening, hchan, hbaud, halone (by simp [hreq])⟩

end Sys2Proof.Machine

/-!
The invariant over the sequencer's operations (10_state.md R49 to R59): the init script, a failed
candidate, CONNECT and DISCONNECT.
-/
namespace Sys2Proof.Machine

theorem Inv.intro {s : State} (hregs : RegsOk s.regs) (hseq : SeqOk s) (hrx : RxOk s) (htx : TxOk s)
    (hevt : EvtOk s) : Inv s :=
  And.intro hregs (And.intro hseq (And.intro hrx (And.intro htx hevt)))

/-! ### What the sequencer's operations need -/

/-- A session whose attempt has a candidate left, with no PC-SC transmit pending. -/
structure Latched (s : State) : Prop where
  regs : RegsOk s.regs
  ncand : s.sess.ncand ≤ 8#4
  cands : s.sess.ncand.toNat ≤ s.sess.cand.length
  ci : s.sess.ci < s.sess.ncand
  busy : s.rx.pcBusy = false
  buf : s.rx.pcBuf = []
  ovf : s.rx.pcOvf = false
  htx : s.tx.htx.length ≤ 64
  evt : EvtOk s

/-- The same session with its transport open and its internal queue empty. -/
structure Opened (s : State) : Prop extends Latched s where
  handle : s.sess.handleOpen = true
  pend : PendOk s.sess.fam s.rx.pend
  txq : s.tx.txq = []

/-- The same session at a step of its init script. -/
structure InStep (s : State) : Prop extends Opened s where
  k : s.sess.k < s.regs.initCount
  fam : s.sess.fam ≠ .pcsc

theorem RegsOk.initCount_le {r : HostRegs} (h : RegsOk r) : r.initCount ≤ 8#4 := by
  obtain ⟨-, hcount, -⟩ := h
  exact hcount

/-- Bytes are pending only in a live session. -/
theorem RxOk.pend_eq_nil {s : State} (h : RxOk s) (hdead : s.sess.seq.live = false) :
    s.rx.pend = [] := by
  obtain ⟨-, hlive, -⟩ := h
  by_contra hne
  exact absurd (hlive hne) (by simp [hdead])

/-- No transmit is pending outside a CONNECTED PC-SC session. -/
theorem RxOk.no_transmit {s : State} (h : RxOk s) (hno : ¬(s.sess.seq = .connected ∧ s.sess.fam = .pcsc)) :
    s.rx.pcBusy = false ∧ s.rx.pcBuf = [] ∧ s.rx.pcOvf = false := by
  obtain ⟨-, -, hbusy, hbuf, -, hovf⟩ := h
  have hidle : s.rx.pcBusy = false := Bool.eq_false_iff.2 fun h => hno (hbusy h)
  have hnil : s.rx.pcBuf = [] := by_contra fun h => by simp [hbuf h] at hidle
  refine ⟨hidle, hnil, Bool.eq_false_iff.2 fun h => ?_⟩
  have := hovf h
  simp [hnil] at this

/-! ### The init script -/

theorem toNat_waitTimer (n : BitVec 16) :
    BitVec.ofNat 17 (n.toNat + 1) ≠ 0#17 ∧ BitVec.ofNat 17 (n.toNat + 1) ≤ 65536#17 := by
  bv_omega

theorem rxOk_of_no_transmit {s : State} (hp : PendOk s.sess.fam s.rx.pend)
    (hlive : s.rx.pend ≠ [] → s.sess.seq.live = true) (hbusy : s.rx.pcBusy = false)
    (hbuf : s.rx.pcBuf = []) (hovf : s.rx.pcOvf = false) : RxOk s :=
  ⟨hp, hlive, by simp [hbusy], by simp [hbuf], by simp [hbuf], by simp [hovf]⟩

/-- The script moves through an opened session by its state, step and timer. -/
theorem Opened.move {s : State} (h : Opened s) (q : SeqState) (k : BitVec 4) (timer : BitVec 17)
    (log : Log) (ports : Ports) (drawn : Nat) :
    Opened { s with
      sess := { s.sess with seq := q, k := k, timer := timer }
      log := log
      ports := ports
      drawn := drawn } :=
  ⟨⟨h.regs, h.ncand, h.cands, h.ci, h.busy, h.buf, h.ovf, h.htx, h.evt⟩, h.handle, h.pend, h.txq⟩

/-- The same step in another state of the sequencer. -/
theorem InStep.move {s : State} (h : InStep s) (q : SeqState) (timer : BitVec 17) (log : Log)
    (ports : Ports) (drawn : Nat) :
    InStep { s with
      sess := { s.sess with seq := q, timer := timer }
      log := log
      ports := ports
      drawn := drawn } :=
  ⟨h.toOpened.move q s.sess.k timer log ports drawn, h.k, h.fam⟩

theorem Opened.inv_enterConnected {s : State} (h : Opened s) (hk : s.sess.k ≤ 8#4) :
    Inv (enterConnected s) := by
  rw [enterConnected_eq]
  refine .intro h.regs ?_ (rxOk_of_no_transmit h.pend (fun _ => rfl) h.busy h.buf h.ovf) ?_ h.evt
  · simp [SeqOk, SeqState.live, h.handle, h.ncand, h.cands, h.ci, hk]
  · simp [TxOk, h.htx, h.txq]

/-- A wait of the script, its timer running. -/
theorem InStep.inv_wait {s : State} (h : InStep s) {q : SeqState} (n : BitVec 16)
    (hq : q = .initWait ∨ q = .initDelay) :
    Inv { s with sess := { s.sess with seq := q, timer := BitVec.ofNat 17 (n.toNat + 1) } } := by
  obtain ⟨hne, hle⟩ := toNat_waitTimer n
  have hlive : q.live = true := by rcases hq with rfl | rfl <;> rfl
  refine .intro h.regs ?_ (rxOk_of_no_transmit h.pend (fun _ => hlive) h.busy h.buf h.ovf) ?_ h.evt
  · rcases hq with rfl | rfl <;>
      simp [SeqOk, SeqState.live, h.handle, h.ncand, h.cands, h.ci, h.k, h.fam, hne, hle]
  · rcases hq with rfl | rfl <;> simp [TxOk, h.htx, h.txq]

/-- Every entry the script is read at counts at most 24 bytes. -/
theorem nbytes_scriptAt_le {s : State} (h : RegsOk s.regs) {k : BitVec 4} (hk : k < s.regs.initCount) :
    (scriptAt s k).nbytes ≤ 24#5 := by
  obtain ⟨-, hcount, hscript⟩ := h
  have hlt : k.toNat < 8 := by bv_omega
  rw [scriptAt_of_lt s hlt]
  exact hscript _ (by simp)

section
variable {s : State} (h : InStep s)
include h

/-- A step of the script being sent. -/
theorem InStep.inv_startStep_of_bytes (ht : s.sess.timer = 0#17)
    (hne : (scriptAt s s.sess.k).nbytes ≠ 0#5) : Inv (startStep s) := by
  have hle := nbytes_scriptAt_le h.regs h.k
  have hlen : (txPairs (scriptAt s s.sess.k).bytes true).length =
      (scriptAt s s.sess.k).nbytes.toNat := by
    rw [txPairs_length, length_scriptBytes hle]
  have hqueue : txPairs (scriptAt s s.sess.k).bytes true ≠ [] := by
    rw [← List.length_pos_iff, hlen]
    bv_omega
  have hroom : (txPairs (scriptAt s s.sess.k).bytes true).length ≤ 24 := by
    rw [hlen]
    exact BitVec.le_def.1 hle
  rw [startStep_of_bytes h.txq hne hle]
  refine .intro h.regs ?_ (rxOk_of_no_transmit h.pend (fun _ => rfl) h.busy h.buf h.ovf) ?_ h.evt
  · simp [SeqOk, SeqState.live, h.handle, h.ncand, h.cands, h.ci, h.k, h.fam, ht]
  · simp [TxOk, h.htx, hqueue, hroom]

/-- A step without bytes queues none. -/
theorem InStep.queueStep_of_no_bytes (hn : (scriptAt s s.sess.k).nbytes = 0#5) :
    InStep (queueStep s) := by
  have hbytes : (scriptAt s s.sess.k).bytes = [] := by simp [ScriptEntry.bytes, hn]
  have hqueue : queueStep s = { s with
      sess := { s.sess with seq := .initTx }, tx := { s.tx with txq := s.tx.txq ++ [] } } := by
    rw [queueStep, hbytes]
    exact txqPush_of_fits (s := { s with sess := { s.sess with seq := .initTx } }) (bs := []) true
      (by simp [h.txq])
  rw [hqueue, List.append_nil]
  exact h.move .initTx s.sess.timer s.log s.ports s.drawn

theorem InStep.inv_enterDelay_of (hadv : Inv (advance s)) : Inv (enterDelay s) := by
  rw [enterDelay_eq]
  split
  · exact hadv
  · exact h.inv_wait _ (.inr rfl)

theorem InStep.inv_finishTx_of (hadv : Inv (advance s)) : Inv (finishTx s) := by
  rw [finishTx_eq]
  split
  · exact h.inv_wait _ (.inl rfl)
  · exact h.inv_enterDelay_of hadv

theorem InStep.next (hne : s.sess.k + 1 ≠ s.regs.initCount) : InStep (toNextStep s) where
  toOpened := h.toOpened.move s.sess.seq (s.sess.k + 1) 0#17 s.log s.ports s.drawn
  k := by
    have hk := h.k
    have hcount := RegsOk.initCount_le h.regs
    show s.sess.k + 1 < s.regs.initCount
    bv_omega
  fam := h.fam

theorem InStep.inv_advance_of
    (hnext : s.sess.k + 1 ≠ s.regs.initCount → Inv (startStep (toNextStep s))) :
    Inv (advance s) := by
  rw [advance_eq]
  split
  case isTrue heq =>
    refine (h.toOpened.move s.sess.seq (s.sess.k + 1) 0#17 s.log s.ports
      s.drawn).inv_enterConnected ?_
    show s.sess.k + 1 ≤ 8#4
    rw [heq]
    exact RegsOk.initCount_le h.regs
  case isFalse hne => exact hnext hne

end

/-- By the number of steps left. -/
theorem InStep.inv_startStep {s : State} (h : InStep s) (ht : s.sess.timer = 0#17) :
    Inv (startStep s) := by
  induction hn : turnsLeft s using Nat.strong_induction_on generalizing s with
  | _ n ih =>
    by_cases hbytes : (scriptAt s s.sess.k).nbytes = 0#5
    · have hqueued := h.queueStep_of_no_bytes hbytes
      rw [startStep_eq, if_pos hbytes]
      refine hqueued.inv_finishTx_of (hqueued.inv_advance_of fun hne => ?_)
      have hless : turnsLeft (toNextStep (queueStep s)) + 1 = turnsLeft s := turnsLeft_next hne
      exact ih _ (by omega) (hqueued.next hne) rfl rfl
    · exact h.inv_startStep_of_bytes ht hbytes

section
variable {s : State} (h : InStep s)
include h

theorem InStep.inv_advance : Inv (advance s) :=
  h.inv_advance_of fun hne => (h.next hne).inv_startStep rfl

theorem InStep.inv_finishTx : Inv (finishTx s) :=
  h.inv_finishTx_of h.inv_advance

theorem InStep.inv_stepResponseMatched : Inv (stepResponseMatched s) :=
  have hstop := h.move s.sess.seq 0#17 s.log s.ports s.drawn
  hstop.inv_enterDelay_of hstop.inv_advance

end

/-! ### A session allowed by the invariant -/

section
variable {s : State} (h : Inv s)
include h

/-- In the script a session is at a step of it, its queue emptied. -/
theorem Inv.inStep_of_emptied
    (hseq : s.sess.seq = .initTx ∨ s.sess.seq = .initWait ∨ s.sess.seq = .initDelay) :
    InStep { s with tx := { s.tx with txq := [] } } := by
  obtain ⟨hregs, ⟨hhandle, -, -, hn, hlen, -, -, -, hscript, -⟩, hrx, ⟨hhtx, -⟩, hevt⟩ := h
  obtain ⟨hci, hk, hfam⟩ := hscript hseq
  obtain ⟨hbusy, hbuf, hovf⟩ := hrx.no_transmit fun hc => hfam hc.2
  have hlive : s.sess.seq.live = true := by rcases hseq with h | h | h <;> rw [h] <;> rfl
  exact ⟨⟨⟨hregs, hn, hlen, hci, hbusy, hbuf, hovf, hhtx, hevt⟩, hhandle.trans hlive, hrx.1, rfl⟩, hk,
    hfam⟩

/-- In a wait of the script the queue is empty. -/
theorem Inv.inStep (hseq : s.sess.seq = .initWait ∨ s.sess.seq = .initDelay) : InStep s := by
  have hstep := h.inStep_of_emptied (.inr hseq)
  obtain ⟨-, -, -, ⟨-, -, htxq, -⟩, -⟩ := h
  have hnil : s.tx.txq = [] := by
    by_contra hne
    rcases htxq hne with hq | ⟨hq, -⟩ <;> simp [hq] at hseq
  rwa [← hnil] at hstep

end

/-! ### A failed candidate -/

/-- A candidate that fails with its handle closed leaves an allowed state (R233). -/
theorem Latched.inv_failCand {s : State} (h : Latched s) (hhandle : s.sess.handleOpen = false)
    (cause : Cause) (step : BitVec 4) : Inv (failCand cause step s) := by
  rw [failCand_eq]
  by_cases hlast : s.sess.ci + 1 = s.sess.ncand
  · simp only [if_pos hlast]
    refine .intro h.regs ?_ (rxOk_of_no_transmit (by simp [PendOk]) (by simp) h.busy h.buf h.ovf)
      (by simp [TxOk, h.htx]) h.evt
    have hci : s.sess.ci + 1#4 = s.sess.ncand := hlast
    simp [SeqOk, SeqState.live, hhandle, h.ncand, h.cands, hci]
  · simp only [if_neg hlast]
    refine .intro h.regs ?_ (rxOk_of_no_transmit (by simp [PendOk]) (by simp) h.busy h.buf h.ovf)
      (by simp [TxOk, h.htx]) h.evt
    have hlt : s.sess.ci + 1#4 < s.sess.ncand := by
      have := h.ci
      have := h.ncand
      bv_omega
    simp [SeqOk, SeqState.live, hhandle, h.ncand, h.cands, hlt]

/-! ### CONNECT -/

theorem candidates_le {fam : Family} {r : HostRegs} (h : RegsOk r) :
    (candidates fam r).2 ≤ 8#4 ∧ (candidates fam r).2.toNat ≤ (candidates fam r).1.length := by
  have hcount := h.1
  rw [candidates_fst, candidates_snd]
  by_cases hp : fam = .pcsc
  · simp [hp]
  · by_cases ho : r.ctrl.baudOvrEn = true
    · rw [if_pos (.inr ho), if_neg hp, if_pos ho]
      simp
    · have hle : r.baudCount.toNat ≤ 8 := BitVec.le_def.1 hcount
      simp [hp, ho, hcount, hle]

theorem inv_connect (fam : Family) {s : State} (h : Inv s) : Inv (connect fam s) := by
  obtain ⟨hregs, ⟨hhandle, -⟩, -, -, hevt⟩ := h
  obtain ⟨hle, hlen⟩ := candidates_le (fam := fam) hregs
  have hclosed : (s.sess.handleOpen && !(decide (IsLive s) && s.sess.handleOpen)) = false := by
    rw [hhandle, Bool.decide_congr live_iff_isLive.symm, Bool.decide_eq_true]
    cases s.sess.seq.live <;> rfl
  rw [connect_eq, latched, latchSession_teardown, hclosed]
  split
  case isTrue hn =>
    refine .intro hregs ?_ (rxOk_of_no_transmit (by simp [PendOk, RxState.empty])
      (by simp [RxState.empty]) rfl rfl rfl) (by simp [TxOk, TxState.empty]) hevt
    have hzero : (candidates fam s.regs).2 = 0#4 := hn
    simp [SeqOk, SeqState.live, hzero]
  case isFalse hn =>
    refine .intro hregs ?_ (rxOk_of_no_transmit (by simp [PendOk, RxState.empty])
      (by simp [RxState.empty]) rfl rfl rfl) (by simp [TxOk, TxState.empty]) hevt
    have hpos : 0#4 < (candidates fam s.regs).2 := by
      have hne : (candidates fam s.regs).2 ≠ 0#4 := hn
      bv_omega
    simp [SeqOk, SeqState.live, emitOpen, hle, hlen, hpos]

theorem inv_cmdConnect {s : State} (h : Inv s) : Inv (cmdConnect s) := by
  rcases cmdConnect_cases s with hrefused | ⟨fam, -, -, -, hconnect⟩
  · rw [hrefused]
    exact h
  · rw [hconnect]
    exact inv_connect fam h

/-! ### DISCONNECT -/

theorem inv_cmdDisconnect {s : State} (h : Inv s) : Inv (cmdDisconnect s) := by
  obtain ⟨hregs, ⟨hhandle, htimer, -, hn, hlen, -, -, hopening, -, -⟩, hrx, ⟨-, htxqlen, htxq, -⟩, hevt⟩ :=
    id h
  cases hseq : s.sess.seq with
  | idle | aborting =>
    rw [cmdDisconnect_of_ended (by simp [hseq])]
    exact h
  | failed =>
    obtain ⟨hbusy, hbuf, hovf⟩ := hrx.no_transmit (by simp [hseq])
    have htxq' : s.tx.txq = [] := by simpa [hseq] using htxq
    have hpend : s.rx.pend = [] := RxOk.pend_eq_nil hrx (by rw [hseq]; rfl)
    have htimer' : s.sess.timer = 0#17 := by simpa [hseq] using htimer
    have hclosed : s.sess.handleOpen = false := by rw [hhandle, hseq]; rfl
    simp only [cmdDisconnect, hseq]
    refine .intro hregs ?_ (rxOk_of_no_transmit (by simp [PendOk, hpend]) (by simp [hpend]) hbusy hbuf
      hovf) (by simp [TxOk, htxq']) hevt
    simp [SeqOk, SeqState.live, hclosed, htimer', hn, hlen]
  | opening =>
    obtain ⟨hci, hk⟩ := hopening (.inl hseq)
    simp only [cmdDisconnect, hseq, teardown_eq]
    refine .intro hregs ?_ (rxOk_of_no_transmit (by simp [PendOk, RxState.empty])
      (by simp [RxState.empty]) rfl rfl rfl) (by simp [TxOk, TxState.empty]) hevt
    simp [SeqOk, SeqState.live, hn, hlen, hci, hk]
  | initTx | initWait | initDelay | connected =>
    simp only [cmdDisconnect, hseq, teardown_eq]
    refine .intro hregs ?_ (rxOk_of_no_transmit (by simp [PendOk, RxState.empty])
      (by simp [RxState.empty]) rfl rfl rfl) (by simp [TxOk, TxState.empty]) hevt
    simp [SeqOk, SeqState.live, hn, hlen]

end Sys2Proof.Machine

/-!
The invariant over every step: records of a legal form (30_encoding.md R104), the receive buffers
(40_assembler.md R133, R140, R145), and the operations one by one.
-/
namespace Sys2Proof.Machine

/-! ### Records -/

/-- Every identifier of the outcome has 1 to 256 bytes. -/
def FrameOutcome.IdsOk (o : FrameOutcome) : Prop :=
  ∀ ids, o = .tagBatch ids → ∀ id ∈ ids, 1 ≤ id.length ∧ id.length ≤ 256

theorem recordOk_of_mem_recordsOf {fam : Family} {hdr : Byte × Byte} {csumBad : Bool}
    {o : FrameOutcome} (hcsum : csumBad = true → fam = .a) (hhdr : fam = .pcsc → hdr = (0#8, 0#8))
    (hids : o.IdsOk) {r : Record} (hr : r ∈ recordsOf fam hdr csumBad o) : RecordOk r := by
  have hheader : fam = .pcsc → hdr.2 = 0#8 ∧ hdr.1 = 0#8 := fun hf => by simp [hhdr hf]
  cases o with
  | frameError | dropped => cases hr
  | ack | noTags | protocolError =>
    simp only [recordsOf, List.mem_singleton] at hr
    subst hr
    exact ⟨by simp, by simp, by simp, hcsum, hheader⟩
  | tagBatch ids =>
    simp only [recordsOf, List.mem_map] at hr
    obtain ⟨id, hid, rfl⟩ := hr
    exact ⟨fun _ => hids ids rfl id hid, by simp, by simp, hcsum, hheader⟩

/-- Every record of the decoded frame has its kind's form. -/
def Decoded.RecordsOk (fam : Family) (d : Decoded) : Prop :=
  ∀ r ∈ d.records fam, RecordOk r

theorem Decoded.recordsOk_of_some {fam : Family} (hdr : Byte × Byte) {csumBad : Bool} (cut : Bool)
    {o : FrameOutcome} (hfam : fam ≠ .pcsc) (hcsum : csumBad = true → fam = .a) (hids : o.IdsOk) :
    Decoded.RecordsOk fam ⟨some hdr, csumBad, cut, o⟩ :=
  fun _ hr => recordOk_of_mem_recordsOf hcsum (fun h => absurd h hfam) hids hr

theorem FrameOutcome.idsOk_of_ne {o : FrameOutcome} (h : ∀ ids, o ≠ .tagBatch ids) : o.IdsOk :=
  fun ids ho => absurd ho (h ids)

theorem idsOk_batchOutcome {ids : List (List Byte)}
    (h : ∀ id ∈ ids, 1 ≤ id.length ∧ id.length ≤ 256) : (batchOutcome ids).IdsOk := by
  rw [batchOutcome]
  split
  · exact FrameOutcome.idsOk_of_ne (by simp)
  · rintro _ ⟨⟩
    exact h

/-! ### Family A frames -/

theorem idsOk_outcomeInventoryA {f : List Byte} (hf : f.length ≤ 258) : (outcomeInventoryA f).IdsOk := by
  rw [outcomeInventoryA_eq]
  split
  · exact FrameOutcome.idsOk_of_ne (by simp)
  case isFalse hlong =>
    split
    case isTrue hst =>
      rintro _ ⟨⟩ id hid
      obtain rfl := List.mem_singleton.1 hid
      simp only [hst, and_true] at hlong
      rw [List.length_take, List.length_drop]
      omega
    case isFalse =>
      split <;> exact FrameOutcome.idsOk_of_ne (by simp)

/-- Every slot taken has 12 bytes (30_encoding.md R96). -/
theorem length_of_mem_bufferSlotsA {f id : List Byte} (h : id ∈ (bufferSlotsA f).1) :
    id.length = 12 := by
  rw [bufferSlotsA_eq] at h
  obtain ⟨j, hj, rfl⟩ := List.mem_map.1 h
  rw [List.mem_range] at hj
  rw [List.length_take, List.length_drop]
  omega

theorem recordsOk_decodeSelectedA (sel : Selectors) {f : List Byte} (hf : f.length ≤ 258) :
    (decodeSelectedA sel f).RecordsOk .a := by
  have of_some {csumBad cut : Bool} {o : FrameOutcome} (h : o.IdsOk) :
      Decoded.RecordsOk .a ⟨some (headerOfA f), csumBad, cut, o⟩ :=
    Decoded.recordsOk_of_some _ _ (by simp) (fun _ => rfl) h
  have hnone : ∀ d : Decoded, d.hdr = none → d.RecordsOk .a := by
    rintro ⟨hdr, csumBad, cut, o⟩ rfl r hr
    cases hr
  rw [decodeSelectedA_eq]
  split
  · exact hnone _ rfl
  · split
    · exact hnone _ rfl
    · split
      · exact of_some (idsOk_outcomeInventoryA hf)
      · split
        · rw [decodeABuffer_eq]
          split
          · exact of_some (FrameOutcome.idsOk_of_ne (by simp))
          · exact of_some (idsOk_batchOutcome fun id hid => by
              rw [length_of_mem_bufferSlotsA hid]
              omega)
        · exact of_some (FrameOutcome.idsOk_of_ne (by simp))

theorem length_le_of_isFrameA {f : List Byte} (h : isFrameA f = true) : f.length ≤ 258 := by
  rw [(isFrameA_iff.1 h).2, totalA]
  have := (byteAt f 1).isLt
  omega

/-! ### Family B frames -/

/-- A tag record's identifier has the bytes its length byte counts (30_encoding.md R100). -/
theorem length_of_mem_recordsFrom {f id : List Byte} {n p : Nat} (h : id ∈ (recordsFrom f n p).1) :
    1 ≤ id.length ∧ id.length ≤ 255 := by
  induction n generalizing p with
  | zero => cases h
  | succ n ih =>
    rw [recordsFrom] at h
    split at h
    case isFalse => cases h
    case isTrue =>
      dsimp only at h
      split at h
      case isFalse => cases h
      case isTrue hwhole =>
        by_cases hzero : (byteAt f p).toNat = 0
        · rw [if_pos hzero] at h
          exact ih h
        · rw [if_neg hzero] at h
          rcases List.mem_cons.1 h with rfl | hrest
          · have := (byteAt f p).isLt
            rw [slice, List.length_take, List.length_drop]
            omega
          · exact ih hrest

theorem recordsOk_decodeSelectedB (f : List Byte) : (decodeSelectedB f).RecordsOk .b := by
  have of_some {cut : Bool} {o : FrameOutcome} (h : o.IdsOk) :
      Decoded.RecordsOk .b ⟨some (headerOfB f), false, cut, o⟩ :=
    Decoded.recordsOk_of_some _ _ (by simp) (by simp) h
  have of_no_ids {cut : Bool} {o : FrameOutcome} (h : ∀ ids, o ≠ .tagBatch ids) :
      Decoded.RecordsOk .b ⟨some (headerOfB f), false, cut, o⟩ :=
    of_some (FrameOutcome.idsOk_of_ne h)
  rw [decodeSelectedB_eq]
  split
  · intro r hr
    cases hr
  · split
    · rw [decodeBInventory_eq]
      split
      · exact of_no_ids (by simp)
      · split
        · exact of_no_ids (by simp)
        · split
          · exact of_no_ids (by simp)
          · exact of_some (idsOk_batchOutcome fun id hid =>
              (length_of_mem_recordsFrom hid).imp_right fun h => by omega)
    · exact of_no_ids (by simp)

/-! ### Publishing -/

theorem inv_publish {rs : List Record} {s : State} (h : Inv s) (hrs : ∀ r ∈ rs, RecordOk r) :
    Inv (publish rs s) := by
  induction rs generalizing s with
  | nil => exact h
  | cons r rs ih =>
    rw [publish_cons]
    refine ih ?_ fun r' hr' => hrs r' (List.mem_cons_of_mem r hr')
    rcases pushEvt_cases r s with ⟨hroom, heq⟩ | ⟨-, heq⟩ <;> rw [heq]
    · obtain ⟨hregs, hseq, hrx, htx, -, hevt⟩ := h
      refine .intro hregs hseq hrx htx ⟨?_, fun r' hr' => ?_⟩
      · rw [List.length_append, List.length_singleton]
        omega
      · rcases List.mem_append.1 hr' with hold | hnew
        · exact hevt r' hold
        · rw [List.mem_singleton.1 hnew]
          exact hrs r List.mem_cons_self
    · exact h

theorem inv_deliver {fam : Family} {d : Decoded} {s : State} (h : Inv s) (hd : d.RecordsOk fam) :
    Inv (deliver fam d s) := by
  by_cases hc : s.sess.seq = .connected
  · rw [deliver_connected fam d hc]
    exact inv_publish h hd
  · rw [deliver_not_connected fam d hc]
    split
    case isTrue hmatch =>
      have hstep := h.inStep (.inl hmatch.1)
      exact (hstep.move s.sess.seq s.sess.timer (d.log s.log) s.ports
        s.drawn).inv_stepResponseMatched
    case isFalse => exact h

/-! ### Receiving -/

theorem inv_withPend {s : State} {p : List Byte} (h : Inv s) (hp : PendOk s.sess.fam p)
    (hlive : p ≠ [] → s.sess.seq.live = true) : Inv (withPend p s) := by
  obtain ⟨hregs, hseq, ⟨-, -, hbusy, hbuf, hlen, hovf⟩, htx, hevt⟩ := h
  exact .intro hregs hseq ⟨hp, hlive, hbusy, hbuf, hlen, hovf⟩ htx hevt

theorem Inv.pendOk {s : State} (h : Inv s) : PendOk s.sess.fam s.rx.pend := by
  obtain ⟨-, -, ⟨hp, -⟩, -⟩ := h
  exact hp

theorem pendOk_nil (fam : Family) : PendOk fam [] := by
  simp [PendOk]

theorem inv_asmAByteSerial (b : Byte) {s : State} (h : Inv s) (hl : s.sess.seq.live = true)
    (hf : s.sess.fam = .a) : Inv (asmAByteSerial b s) := by
  have hp : PendOk .a s.rx.pend := hf ▸ h.pendOk
  rcases asmAByteSerial_cases b hp with ⟨-, -, heq⟩ | ⟨hok, heq⟩ | ⟨hframe, heq⟩ <;> rw [heq]
  · exact h
  · exact inv_withPend h (hf ▸ hok) fun _ => hl
  · have hemptied : Inv (withPend [] s) := inv_withPend h (pendOk_nil _) fun hne => absurd rfl hne
    rw [frameDoneA_eq_deliver]
    exact inv_deliver (s := countFrame (withPend [] s)) hemptied
      (recordsOk_decodeSelectedA _ (length_le_of_isFrameA hframe))

theorem inv_asmBByte (b : Byte) {s : State} (h : Inv s) (hl : s.sess.seq.live = true)
    (hf : s.sess.fam = .b) : Inv (asmBByte b s) := by
  have hp : PendOk .b s.rx.pend := hf ▸ h.pendOk
  by_cases hnil : s.rx.pend = []
  · rcases Nat.lt_or_ge b.toNat 4 with hb | hb
    · rw [asmBByte_rejects hnil hb]
      exact h
    · rw [asmBByte_starts hnil hb]
      refine inv_withPend h (hf ▸ pendOk_b_iff.2 (.inr ⟨?_, ?_⟩)) fun _ => hl
      · exact BitVec.le_def.2 hb
      · show 1 < b.toNat + 1
        omega
  · obtain ⟨hmin, hlt⟩ := (pendOk_b_iff.1 hp).resolve_left hnil
    rw [asmBByte_of_pend_ne hnil]
    split
    case isTrue =>
      have hemptied : Inv (withPend [] s) := inv_withPend h (pendOk_nil _) fun hne => absurd rfl hne
      rw [frameDoneB_eq_deliver]
      exact inv_deliver (s := countFrame (withPend [] s)) hemptied (recordsOk_decodeSelectedB _)
    case isFalse hmore =>
      refine inv_withPend h (hf ▸ pendOk_b_iff.2 (.inr ⟨?_, ?_⟩)) fun _ => hl
      · rwa [byteAt_zero_append _ hnil]
      · rw [totalB_append _ hnil] at hmore ⊢
        rw [List.length_append, List.length_singleton] at hmore ⊢
        omega

/-- A UID is a response of more than its status word, which is 258 bytes at most. -/
theorem inv_frameDonePcsc {r : List Byte} {s : State} (ovf : Bool) (h : Inv s)
    (hlen : r.length ≤ 258) : Inv (frameDonePcsc r ovf s) := by
  have of_ids {o : FrameOutcome} (ho : o.IdsOk) : Inv (deliverPcsc o s) := by
    rw [deliverPcsc, logOutcome_eq]
    exact inv_publish (s := { s with log := o.log s.log }) h
      fun _ hr => recordOk_of_mem_recordsOf (by simp) (fun _ => rfl) ho hr
  unfold frameDonePcsc
  cases hrow : selectPcsc r ovf with
  | frameError | noTags | protoError => exact of_ids (FrameOutcome.idsOk_of_ne (by simp))
  | tag =>
    refine of_ids ?_
    rintro _ ⟨⟩ id hid
    obtain rfl := List.mem_singleton.1 hid
    have hlong : 2 < r.length := by
      unfold selectPcsc at hrow
      split_ifs at hrow with hbad _ htwo
      simp only [Bool.or_eq_true, decide_eq_true_eq] at hbad
      omega
    rw [uidOf, List.length_take]
    omega

/-- A byte that ends an awaited response hands on at most 258 bytes (40_assembler.md R145). -/
theorem pcscByte_last {s : State} (b : Byte) (h : s.rx.pcBuf.length ≤ 258) :
    ∃ r ovf, r.length ≤ 258 ∧ pcscByte b true s = frameDonePcsc r ovf (responseDone s) := by
  refine ⟨_, _, ?_, rfl⟩
  split
  · exact h
  case isFalse hroom =>
    have : s.rx.pcBuf.length < 258 := Nat.not_le.1 hroom
    rw [List.length_append, List.length_singleton]
    omega

theorem inv_responseDone {s : State} (h : Inv s) : Inv (responseDone s) := by
  obtain ⟨hregs, hseq, ⟨hp, hlive, -⟩, htx, hevt⟩ := h
  exact .intro hregs hseq (rxOk_of_no_transmit (s := responseDone s) hp hlive rfl rfl rfl) htx hevt

theorem inv_pcscByte (b : Byte) (last : Bool) {s : State} (h : Inv s) (hbusy : s.rx.pcBusy = true) :
    Inv (pcscByte b last s) := by
  obtain ⟨hregs, hseq, ⟨hp, hlive, hconn, -, hlen, hovf⟩, htx, hevt⟩ := id h
  cases last with
  | true =>
    obtain ⟨r, ovf, hr, heq⟩ := pcscByte_last b hlen
    rw [heq]
    exact inv_frameDonePcsc ovf (inv_responseDone h) hr
  | false =>
    rcases Nat.lt_or_ge s.rx.pcBuf.length 258 with hroom | hfull
    · rw [pcscByte_kept b hroom]
      refine .intro hregs hseq ⟨hp, hlive, hconn, fun _ => hbusy, ?_, fun h => ?_⟩ htx hevt
      · rw [List.length_append, List.length_singleton]
        omega
      · exact absurd (hovf h) (by omega)
    · rw [pcscByte_lost b hfull]
      exact .intro hregs hseq ⟨hp, hlive, hconn, fun _ => hbusy, hlen, fun _ => by
        show s.rx.pcBuf.length = 258
        omega⟩ htx hevt

theorem inv_rxByte (b : Byte) (last : Bool) {s : State} (h : Inv s) : Inv (rxByte b last s) := by
  rcases rxByte_cases b last s with ⟨hl, hf, heq⟩ | ⟨hl, hf, heq⟩ | ⟨-, -, hbusy, heq⟩ | heq <;> rw [heq]
  · rw [asmAByte_eq_asmAByteSerial b ⟨hl, hf, hf ▸ h.pendOk⟩]
    exact inv_asmAByteSerial b h hl hf
  · exact inv_asmBByte b h hl hf
  · exact inv_pcscByte b last h hbusy
  · exact h

theorem inv_rxBytes (bs : List Byte) {s : State} (h : Inv s) : Inv (rxBytes bs s) := by
  induction bs generalizing s with
  | nil => exact h
  | cons b bs ih => exact ih (inv_rxByte b false h)

/-! ### Whole frames (log 5) -/

theorem inv_exec_frame {i : Instr} {s t : State} {f : List Byte} (h : Inv s)
    (hexec : exec i s = .next t) (hwf : i.wellFormed = true)
    (hsel : i.selected (selectorsOf s) = true)
    (henc : encode i = ⟨.frameA, f⟩ ∨ encode i = ⟨.frameB, f⟩) : Inv t := by
  have hdec := decodeOfEncodeGivesItBack (selectorsOf s) i hwf hsel
  have hitem : decode (selectorsOf s) ⟨.frameA, f⟩ = .ok i ∨
      decode (selectorsOf s) ⟨.frameB, f⟩ = .ok i := by
    rcases henc with he | he <;> rw [he] at hdec
    · exact .inl hdec
    · exact .inr hdec
  have hbytes := (wholeFrameEqualsItsBytes s f i).1 hitem
  rw [hexec, execAll_rxByte] at hbytes
  rw [Host.Outcome.next.inj hbytes]
  exact inv_rxBytes f h

theorem inv_exec_response {i : Instr} {s t : State} {r : List Byte} (h : Inv s)
    (hexec : exec i s = .next t) (hwf : i.wellFormed = true)
    (hsel : i.selected (selectorsOf s) = true) (henc : encode i = ⟨.apduResponse, r⟩) : Inv t := by
  have hdec := decodeOfEncodeGivesItBack (selectorsOf s) i hwf hsel
  rw [henc] at hdec
  obtain ⟨q, b, rfl⟩ := (List.eq_nil_or_concat r).resolve_left (of_decode_response hdec).1
  rw [List.concat_eq_append] at hdec
  have hbytes := (wholeFrameEqualsItsBytes s [] i).2 q b hdec
  rw [hexec, execAll_rxByte_last, rxBytesLast_append] at hbytes
  rw [Host.Outcome.next.inj hbytes]
  exact inv_rxByte b true (inv_rxBytes q h)

/-! ### The other operations -/

theorem inv_withRegs {s : State} {r : HostRegs} (h : Inv s) (hok : RegsOk r)
    (hlock : IsLocked s → r.initCount = s.regs.initCount) : Inv { s with regs := r } := by
  obtain ⟨-, ⟨hh, ht, hle, hn, hlen, hidle, hfailed, hopening, hscript, hconn⟩, hrx, htx, hevt⟩ := h
  refine .intro hok ⟨hh, ht, hle, hn, hlen, hidle, hfailed, hopening, fun hseq => ?_, hconn⟩ hrx htx hevt
  obtain ⟨hci, hk, hfam⟩ := hscript hseq
  exact ⟨hci, by rwa [hlock (.inr hseq)], hfam⟩

theorem inv_cmdFlushRx {s : State} (h : Inv s) : Inv (cmdFlushRx s) := by
  obtain ⟨hregs, hseq, ⟨-, -, hbusy, -⟩, htx, hevt⟩ := h
  exact .intro hregs hseq ⟨pendOk_nil _, fun hne => absurd rfl hne, hbusy, fun hne => absurd rfl hne,
    Nat.zero_le _, by simp [cmdFlushRx]⟩ htx hevt

theorem inv_cmdEvtPop {s : State} (h : Inv s) : Inv (cmdEvtPop s) := by
  obtain ⟨hregs, hseq, hrx, htx, hlen, hevt⟩ := h
  refine .intro hregs hseq hrx htx ⟨?_, fun r hr => hevt r (List.mem_of_mem_tail hr)⟩
  show s.evt.tail.length ≤ 16
  rw [List.length_tail]
  omega

theorem inv_issueGetUid {s : State} (h : Inv s) : Inv (issueGetUid s) := by
  rw [issueGetUid_eq]
  split
  case isFalse => exact h
  case isTrue hc =>
    obtain ⟨hconn, hfam, -⟩ := hc
    obtain ⟨hregs, hseq, ⟨hp, hlive, -⟩, ⟨hhtx, -⟩, hevt⟩ := h
    refine .intro hregs hseq ⟨hp, hlive, fun _ => ⟨hconn, hfam⟩, fun _ => rfl, Nat.zero_le _,
      by simp [awaitResponse]⟩ ⟨hhtx, txqHold_length _ _, fun _ => .inr ⟨hconn, hfam⟩, fun hq => ?_⟩ hevt
    exact absurd (hconn.symm.trans hq) (by simp)

theorem inv_onXferErr {s : State} (h : Inv s) : Inv (onXferErr s) := by
  rw [onXferErr]
  split
  case isFalse => exact h
  case isTrue hbusy =>
    obtain ⟨hregs, hseq, ⟨hp, hlive, hconn, -⟩, ⟨hhtx, -⟩, hevt⟩ := h
    obtain ⟨hc, -⟩ := hconn hbusy
    refine .intro hregs hseq (rxOk_of_no_transmit hp hlive rfl rfl rfl)
      ⟨hhtx, Nat.zero_le _, fun hne => absurd rfl hne, fun hq => ?_⟩ hevt
    exact absurd (hc.symm.trans hq) (by simp)

/-- A transmitter that has given up its queue's head, and was not on an init step's last byte. -/
theorem inv_takeBeat {s : State} {e : Byte × Bool} {rest : List (Byte × Bool)} (h : Inv s)
    (hq : s.tx.txq = e :: rest) (hmore : s.sess.seq = .initTx → rest ≠ []) :
    Inv (takeBeat e rest s) := by
  obtain ⟨hregs, hseq, hrx, ⟨hhtx, hlen, huse, -⟩, hevt⟩ := h
  rw [hq] at hlen huse
  have hshort : rest.length ≤ 24 := by
    rw [List.length_cons] at hlen
    omega
  exact .intro hregs hseq hrx ⟨hhtx, hshort, fun _ => huse (by simp), hmore⟩ hevt

theorem inv_onTxBeat {s : State} (h : Inv s) : Inv (onTxBeat s) := by
  cases hq : s.tx.txq with
  | cons e rest =>
    rw [onTxBeat_cons hq]
    split
    case isTrue hlast =>
      obtain ⟨rfl, hseq⟩ := hlast
      exact ((h.inStep_of_emptied (.inl hseq)).move s.sess.seq s.sess.timer s.log
        { s.ports with txBeat := some e } s.drawn).inv_finishTx
    case isFalse hmore => exact inv_takeBeat h hq fun hseq hnil => hmore ⟨hnil, hseq⟩
  | nil =>
    cases hh : s.tx.htx with
    | nil =>
      rw [onTxBeat_nothing hq hh]
      exact h
    | cons b rest =>
      rw [onTxBeat_host hq hh]
      split
      case isFalse => exact h
      case isTrue =>
        obtain ⟨hregs, hseq, hrx, ⟨hhtx, hlen, huse⟩, hevt⟩ := h
        have hshort : rest.length ≤ 64 := by
          rw [hh, List.length_cons] at hhtx
          omega
        exact .intro hregs hseq hrx ⟨hshort, hlen, huse⟩ hevt

/-- While an open is awaited there is a candidate, and no transmit. -/
theorem Inv.latched_opening {s : State} (h : Inv s) (hseq : s.sess.seq = .opening) : Latched s := by
  obtain ⟨hregs, ⟨-, -, -, hn, hlen, -, -, hopening, -⟩, hrx, ⟨hhtx, -⟩, hevt⟩ := h
  obtain ⟨hbusy, hbuf, hovf⟩ := hrx.no_transmit (by simp [hseq])
  exact ⟨hregs, hn, hlen, (hopening (.inl hseq)).1, hbusy, hbuf, hovf, hhtx, hevt⟩

theorem inv_onOpenRsp (ok : Bool) (err : BitVec 2) {s : State} (h : Inv s) :
    Inv (onOpenRsp ok err s) := by
  obtain ⟨hregs, ⟨hhandle, htimer, hle, hn, hlen, -, -, hopening, -, -⟩, hrx, ⟨hhtx, htxqlen, htxq, -⟩,
    hevt⟩ := id h
  cases hseq : s.sess.seq with
  | idle | initTx | initWait | initDelay | connected | failed =>
    simp only [onOpenRsp, hseq]
    exact h
  | aborting =>
    have hclosed : s.sess.handleOpen = false := by rw [hhandle, hseq]; rfl
    have htimer' : s.sess.timer = 0#17 := by simpa [hseq] using htimer
    have htxq' : s.tx.txq = [] := by simpa [hseq] using htxq
    have hpend : s.rx.pend = [] := RxOk.pend_eq_nil hrx (by rw [hseq]; rfl)
    obtain ⟨hbusy, hbuf, hovf⟩ := hrx.no_transmit (by simp [hseq])
    have hidle : Inv { s with sess := { s.sess with ci := 0#4, k := 0#4, seq := .idle } } := by
      refine .intro hregs ?_ (rxOk_of_no_transmit hrx.1 (by simp [hpend]) hbusy hbuf hovf)
        (by simp [TxOk, htxq', hhtx]) hevt
      simp [SeqOk, SeqState.live, hclosed, htimer', hn, hlen]
    simp only [onOpenRsp, hseq]
    cases ok <;> exact hidle
  | opening =>
    have hlatched := h.latched_opening hseq
    have hclosed : s.sess.handleOpen = false := by rw [hhandle, hseq]; rfl
    cases ok with
    | false =>
      rw [onOpenRsp_failed err hseq]
      exact hlatched.inv_failCand hclosed _ _
    | true =>
      have htimer' : s.sess.timer = 0#17 := by simpa [hseq] using htimer
      have htxq' : s.tx.txq = [] := by simpa [hseq] using htxq
      have hk : s.sess.k = 0#4 := (hopening (.inl hseq)).2
      have hopened : Opened { s with sess := { s.sess with handleOpen := true } } :=
        ⟨⟨hregs, hn, hlen, hlatched.ci, hlatched.busy, hlatched.buf, hlatched.ovf, hhtx, hevt⟩, rfl, hrx.1,
          htxq'⟩
      rw [onOpenRsp_succeeded err hseq]
      split
      · exact hopened.inv_enterConnected (by simp [hk])
      case isFalse hscript =>
        obtain ⟨hfam, hcount⟩ := not_or.1 hscript
        have hpos : 0#4 < s.regs.initCount := by bv_omega
        exact InStep.inv_startStep
          ⟨hopened.move s.sess.seq 0#4 s.sess.timer s.log s.ports s.drawn, hpos, hfam⟩ htimer'

theorem inv_onTick {s : State} (h : Inv s) : Inv (onTick s) := by
  by_cases hno : (s.sess.seq ≠ .initWait ∧ s.sess.seq ≠ .initDelay) ∨ s.sess.timer = 0#17
  · rw [onTick_of_no_wait hno]
    exact h
  · obtain ⟨hwait, ht⟩ := not_or.1 hno
    have hseq : s.sess.seq = .initWait ∨ s.sess.seq = .initDelay := by tauto
    have hstep := h.inStep hseq
    have hcounted := hstep.move s.sess.seq (s.sess.timer - 1) s.log s.ports s.drawn
    rw [onTick_of_wait hseq ht]
    split
    case isFalse hmore =>
      obtain ⟨hregs, ⟨hh, -, hle, hrest⟩, hrx, htx, hevt⟩ := h
      have hrun : s.sess.timer - 1 ≠ 0#17 := by bv_omega
      have hless : s.sess.timer - 1 ≤ 65536#17 := by bv_omega
      exact .intro hregs ⟨hh, iff_of_true hrun hseq, hless, hrest⟩ hrx htx hevt
    case isTrue =>
      rcases hseq with hw | hd
      · rw [timerExpired_initWait (s := countTick s) hw]
        exact Latched.inv_failCand (s := emitClose { countTick s with
            sess := { (countTick s).sess with handleOpen := false } })
          ⟨hstep.regs, hstep.ncand, hstep.cands, hstep.ci, hstep.busy, hstep.buf, hstep.ovf, hstep.htx,
            hstep.evt⟩ rfl _ _
      · rw [timerExpired_initDelay (s := countTick s) hd]
        exact hcounted.inv_advance

/-! ### Every step -/

/-- Settles O59. -/
theorem resetStateIsAllowed : Obligations.ResetStateIsAllowed :=
  Inv.intro (by decide) (by decide) (by decide) (by decide) (by decide)

/-- A well-formed operation that the registers select keeps the invariant. -/
theorem inv_exec {i : Instr} {s t : State} (h : Inv s) (hexec : exec i s = .next t)
    (hwf : i.wellFormed = true) (hsel : i.selected (selectorsOf s) = true) : Inv t := by
  cases exec_effect hexec with
  | nothing | bus | log | eng => exact h
  | regs r _ hok hlock => exact inv_withRegs h (hok h.1) hlock
  | hostFifo q hq =>
    obtain ⟨hregs, hseq, hrx, ⟨hhtx, hrest⟩, hevt⟩ := h
    exact .intro hregs hseq hrx ⟨hq hhtx, hrest⟩ hevt
  | evtPop => exact inv_cmdEvtPop h
  | flushRx => exact inv_cmdFlushRx h
  | connect => exact inv_cmdConnect h
  | disconnect => exact inv_cmdDisconnect h
  | rxByte b last => exact inv_rxByte b last h
  | txBeat => exact inv_onTxBeat h
  | openRsp ok err => exact inv_onOpenRsp ok err h
  | tick => exact inv_onTick h
  | getUid => exact inv_issueGetUid h
  | xferErr => exact inv_onXferErr h
  | reset => exact resetStateIsAllowed
  | frameA f d hi =>
    refine inv_exec_frame (f := f) h hexec hwf hsel (.inl ?_)
    rw [eq_instrOfRowA hi hsel]
    exact encode_instrOfRowA f _
  | frameB f d hi =>
    refine inv_exec_frame (f := f) h hexec hwf hsel (.inr ?_)
    rw [eq_instrOfRowB hi hwf]
    exact encode_instrOfRowB f _
  | response f r o hi =>
    simp only [List.mem_cons, List.not_mem_nil, or_false] at hi
    rcases hi with rfl | rfl | rfl | rfl <;> exact inv_exec_response h hexec hwf hsel rfl

/-- Settles O60: a step takes no event, or runs one that the decoder accepts (O4). -/
theorem everyStepKeepsTheRules : Obligations.EveryStepKeepsTheRules := by
  intro s t h hstep
  cases hin : s.inputs with
  | nil =>
    rw [step_of_inputs_nil hin] at hstep
    obtain rfl := Host.Outcome.next.inj hstep
    exact h
  | cons inp rest =>
    cases hdec : decode (selectorsOf s) inp with
    | error e =>
      rw [step_of_decode_error hin hdec] at hstep
      cases hstep
    | ok i =>
      rw [step_of_decode_ok hin hdec] at hstep
      obtain ⟨hwf, hsel, -⟩ := decoderAcceptsOnlyWhatTheTablesGive _ _ _ hdec
      exact inv_exec (s := beginStep rest s) h hstep hwf hsel

end Sys2Proof.Machine
